-- ==== Sys2Proof/Word.lean ====
section
/-! DEFINITION. The widths the manual uses: bytes, halfwords, words and time base values, with the distance
forward between two time base values. -/

namespace Sys2Proof

/-- A byte of a frame, a host link message or the descriptor store. -/
abbrev Byte := BitVec 8

/-- A 16-bit value: labels, the event flag set, the recenter count. -/
abbrev Half := BitVec 16

/-- A 32-bit value: counters, sequence numbers, alarm intervals. -/
abbrev Word := BitVec 32

/-- A value of the 48-bit time base, in microseconds (R162). -/
abbrev Time := BitVec 48

/-- The distance forward from `start` to `now`, in microseconds, wrapping at 2^48 (R63, R118, R162). -/
abbrev Time.since (now start : Time) : Nat := (now - start).toNat

/-- The time base value `us` microseconds after `t`, wrapping at 2^48 (R67, R118). -/
abbrev Time.after (t : Time) (us : Nat) : Time := t + BitVec.ofNat 48 us

end Sys2Proof
end

