-- ==== Sys2Proof/Syntax.lean ====
section
/-! DEFINITION. The commands of the block: one constructor per row of spec/opcode_table.json.

A request row stands for one whole valid request frame of that kind taken from the frame assembler (log 7): its
operands are the tag and the body's bytes as they stand in the frame (R174), so every field value and every wrong
body length can be written. The six RESET rows carry the scope byte's other bits (log 8). -/

namespace Sys2Proof

inductive Instr where
  -- requests of the host
  | identify (tag : Byte) (body : List Byte)
  | status (tag : Byte) (body : List Byte)
  | resetTables (tag others : Byte)
  | resetLog (tag others : Byte)
  | resetCounters (tag others : Byte)
  | resetDescriptor (tag others : Byte)
  | resetSettings (tag others : Byte)
  | resetAlarms (tag others : Byte)
  | settingSet (tag : Byte) (body : List Byte)
  | settingGet (tag : Byte) (body : List Byte)
  | handover (tag : Byte) (body : List Byte)
  | reclaim (tag : Byte) (body : List Byte)
  | wakeAck (tag : Byte) (body : List Byte)
  | answerSet (tag : Byte) (body : List Byte)
  | answerClear (tag : Byte) (body : List Byte)
  | answerGet (tag : Byte) (body : List Byte)
  | templateSet (tag : Byte) (body : List Byte)
  | templateSetEmptyBody (tag id : Byte) (ops : List Byte)
  | templateGet (tag : Byte) (body : List Byte)
  | filterInsert (tag : Byte) (body : List Byte)
  | filterRemove (tag : Byte) (body : List Byte)
  | filterGet (tag : Byte) (body : List Byte)
  | descOpen (tag : Byte) (body : List Byte)
  | descWrite (tag : Byte) (body : List Byte)
  | descRead (tag : Byte) (body : List Byte)
  | descPublish (tag : Byte) (body : List Byte)
  | wakelogTake (tag : Byte) (body : List Byte)
  | captureGet (tag : Byte) (body : List Byte)
  | countersGet (tag : Byte) (body : List Byte)
  | countersClear (tag : Byte) (body : List Byte)
  | eventsGet (tag : Byte) (body : List Byte)
  | eventsClear (tag : Byte) (body : List Byte)
  | noticeMask (tag : Byte) (body : List Byte)
  | alarmSet (tag : Byte) (body : List Byte)
  | alarmStop (tag : Byte) (body : List Byte)
  | alarmGet (tag : Byte) (body : List Byte)
  | linkGet (tag : Byte) (body : List Byte)
  | unknownKind (kind tag : Byte) (body : List Byte)
  -- the host link
  | hostLinkByte (b : Byte)
  | framingError
  | gapTimeout
  | hostLinkFrameSent
  -- resets: `fast` is the level of the HL_RATE strap, `us` how long the reset lasts
  | coldReset (fast : Bool)
  | supplySwitchReset (us : Nat) (fast : Bool)
  -- presence
  | hostTxActiveFall
  | hostTxActiveRise
  | handoverDeadlineExpiry
  | wakeAckTimerExpiry
  | escalationPulseEnd
  -- reception
  | frameStart (b : Byte)
  | phyRxer
  | frameEnd (partialByte : Bool)
  -- transmission
  | transmissionStart
  | transmissionEnd
  | gapEnd
  -- descriptor passes
  | checksumPassEnd
  | holdDownEnd
  | clearingPassEnd
  | verifyPassEnd
  -- the sideband bus: `ack` is the reader's acknowledge of the byte the part sends
  | startCondition
  | repeatedStartCondition
  | addressByte (b : Byte)
  | pageSelectWrite (b : Byte)
  | pageSelectRead (ack : Bool)
  | readOffsetWrite (b : Byte)
  | descriptorReadByte (ack : Bool)
  | stopCondition
  | stallTimeout
  -- the link: `cycles` is how many receive clock cycles fell in the interval
  | phyLinkRise
  | phyLinkFall
  | measurement (cycles : Nat)
  | settleEnd
  | recenter
  | quarantineEnd
  -- time
  | windowEnd
  | alarmExpiry (timer : Fin 4)
  | frameByte (b : Byte)
deriving DecidableEq, Repr

end Sys2Proof
end

