-- ==== Sys2Proof/Decode.lean ====
section
/-! DEFINITION. No row of spec/opcode_table.json gives bits ("fields": [] on every row), so no word spells a
command. The byte-level decoding of host link frames is the block's own work and stands in
Machine/Operands.lean (bodies) and Machine/HostLink.lean (frames). -/

namespace Sys2Proof

/-- The command that a word spells by the table's bits: none, for the table gives no row bits. -/
def decodeTableWord (_nbits _w : Nat) : Option Instr := none

end Sys2Proof
end

