-- ==== Sys2Proof/Config.lean ====
section
/-! DEFINITION. What is fixed for the part, and the free values: what the manual leaves open. -/

namespace Sys2Proof.Config

/-- The free values, one for each reading: State counts the readings. No body: nothing can evaluate it, so a
claim about a machine that reads one holds whatever it is (log 4, 5, 11, 20, 21). -/
opaque freeNat : Nat → Nat

/-- Nanoseconds of the part's own clock in a millisecond and in a microsecond (log 2). -/
def nsPerMs : Nat := 1000000
def nsPerUs : Nat := 1000

/-- Microseconds of the time base in a millisecond. -/
def usPerMs : Nat := 1000

/-- The measurement interval of R133, in microseconds. -/
def measureIntervalUs : Nat := 10000

/-- The part code of IDENTIFY (R190). -/
def partCode : Nat := 0x4120

/-- Capacities: R45, R80, R93, R177. -/
def filterCapacity : Nat := 16
def queueCapacity : Nat := 8
def logCapacity : Nat := 8
def requestCapacity : Nat := 4

/-- The most bytes of a frame that are stored (R25). -/
def storedCapacity : Nat := 256

/-- Bytes of the descriptor store and of one section (R107, R108). -/
def storeSize : Nat := 1024
def sectionSize : Nat := 128

end Sys2Proof.Config
end

