-- ==== Sys2Proof/Machine/Types.lean ====
section
/-! DEFINITION. The data of each block, in the manual's names. Everything is plain data. Where the manual keeps two
items that stand together (a state and a time present in that state only) they are one constructor. -/

namespace Sys2Proof.Machine

/-! ### PRC (R1) -/

/-- The presence states (R1). -/
inductive Presence where
  | passive | entering | proxy | waking | escalated | leaving
deriving DecidableEq, Repr

/-- The request whose response waits for ENTERING or LEAVING to end (R1). -/
inductive PendingResponse where
  | none | handover | reclaim
deriving DecidableEq, Repr

/-- The Presence Controller (R1). A running timer holds its expiry time in the part's own clock (log 2). -/
structure Prc where
  presence : Presence
  handoverDeadline : Option Nat
  wakeAckTimer : Option Nat
  escalations : Fin 3
  pulseEnd : Option Nat
  pendingResponse : PendingResponse
deriving DecidableEq, Repr

/-! ### RXP (R23) -/

/-- What RXP keeps of the frame in reception beside its stored bytes (R23): the received length, the check state
(the register over every byte but the last four, and those last four, log 14), the damage mark, the partial byte. -/
structure RxFrame where
  received : Nat
  crc : Word
  tail : List Byte
  damaged : Bool
  partialByte : Bool
deriving DecidableEq, Repr

/-- The states of RXP (R23). STORING names its RECEIVING buffer. -/
inductive Rxp where
  | idle
  | storing (buf : Fin 10) (frame : RxFrame)
  | streaming (frame : RxFrame)
  | discarding (frame : RxFrame)
  | ignoring
deriving DecidableEq, Repr

/-- The 23 counters of the bank, in the order of R37. -/
inductive Counter where
  | rxGood | rxCheckError | rxFragment | rxUndersize | rxOversize | rxJabber | rxNoBuffer | rxLinkDiscard
  | blocked | wakeMatches | answerMatches | unmatched
  | answersSent | answersPaced | answersShed | answersQueueFull | answersNoBuffer | answersFlushed
  | linkBadFrames | linkDroppedFrames | linkGapTimeouts
  | sidebandReads | sidebandRefusals
deriving DecidableEq, Repr

/-! ### POOL (R31) -/

/-- The owner states of a buffer (R31). -/
inductive Owner where
  | free | receiving | queued | captured
deriving DecidableEq, Repr

/-- One pool buffer: its owner and the bytes its holder has written from its first byte (R31, R34). -/
structure Buffer where
  owner : Owner
  bytes : List Byte
deriving DecidableEq, Repr

/-! ### MATCH (R42, R45, R58, R68) -/

/-- Four bytes: the value or the mask of a pattern term (R42). -/
structure Quad where
  b0 : Byte
  b1 : Byte
  b2 : Byte
  b3 : Byte
deriving DecidableEq, Repr

/-- A pattern term (R42). -/
structure Term where
  offset : Byte
  value : Quad
  mask : Quad
deriving DecidableEq, Repr

/-- The actions of a filter record (R45). -/
inductive FilterAction where
  | wake | wakeAnswer | block
deriving DecidableEq, Repr

/-- A filter record (R45). Its position is its place in the list. -/
structure FilterRecord where
  label : Half
  action : FilterAction
  isProtected : Bool
  pattern : List Term
  hits : Nat
deriving DecidableEq, Repr

/-- The classes of an answer entry (R58). -/
inductive AnswerClass where
  | essential | routine | courtesy
deriving DecidableEq, Repr

/-- An answer entry (R58). -/
structure AnswerEntry where
  cls : AnswerClass
  template : Fin 16
  pattern : List Term
  pacing : Half
  isProtected : Bool
  hits : Nat
  quietUntil : Option Time
deriving DecidableEq, Repr

/-- The sources of a copy operation (R69). -/
inductive CopySource where
  | frame | station
deriving DecidableEq, Repr

/-- A copy operation (R69). -/
structure CopyOp where
  source : CopySource
  srcOffset : Byte
  dstOffset : Byte
  len : Byte
deriving DecidableEq, Repr

/-- A defined template (R68). -/
structure Template where
  body : List Byte
  edits : List CopyOp
deriving DecidableEq, Repr

/-! ### TXQ (R80) -/

/-- A queued reply: its buffer and its length (R80). -/
structure QueuedReply where
  buf : Fin 10
  len : Nat
deriving DecidableEq, Repr

/-- The transmitter (R80): SENDING holds the bytes of R83 that go on the line and when the last of them is sent, GAP
its gap end, both in the part's own clock. -/
inductive Transmitter where
  | idle
  | sending (line : List Byte) (done : Nat)
  | gap (gapEnd : Nat)
deriving DecidableEq, Repr

structure Txq where
  queue : List QueuedReply
  transmitter : Transmitter
deriving DecidableEq, Repr

/-! ### WLOG (R93) -/

/-- The kinds of wake cause (R94). -/
inductive WakeCause where
  | filter | alarm | linkUp | linkDown | descFault | supplySwitch
deriving DecidableEq, Repr

/-- The capture of a record: its slot and the frame's received length, present together (R94). -/
structure Capture where
  slot : Fin 2
  received : Nat
deriving DecidableEq, Repr

/-- A wake record (R94). -/
structure WakeRecord where
  seq : Word
  time : Time
  cause : WakeCause
  detail : Option Half
  capture : Option Capture
  coalesced : Nat
deriving DecidableEq, Repr

/-- The Wake Log (R93). `none` as next sequence number is "exhausted" (R100). -/
structure Wlog where
  records : List WakeRecord
  slots : Vector (Option (Fin 10)) 2
  nextSeq : Option Word
deriving DecidableEq, Repr

/-- An offer of a wake cause (R95): the cause, its detail, LMON's first mark on a LINK_UP (R141), and for a FILTER
cause the RECEIVING buffer and the received length of the walked frame (R98). -/
structure Offer where
  cause : WakeCause
  detail : Option Half
  first : Bool
  frame : Option (Fin 10 × Nat)
deriving DecidableEq, Repr

/-! ### DESC (R107) -/

/-- The descriptor states (R107). -/
inductive DescState where
  | clearing | empty | editing | summing | holddown | published | verifying | faulted
deriving DecidableEq, Repr

/-- Whom the current segment of a transaction addresses (R107). -/
inductive SbTarget where
  | descriptor | pageSelect | other
deriving DecidableEq, Repr

/-- A sideband transaction in progress (R107). `released`: after a byte the reader did not acknowledge the part
sends nothing more in the segment (R122, R123). -/
structure Transaction where
  start : Time
  stallMs : Nat
  target : SbTarget
  reading : Bool
  dataBytes : Nat
  sent : Bool
  released : Bool
deriving DecidableEq, Repr

/-- What the next byte on the bus is to the part (R120): nothing awaited, an address byte after a start condition
(with the start time and stall time it would give a transaction, R121), or one after a repeated start. -/
inductive BusWait where
  | nothing
  | afterStart (start : Time) (stallMs : Nat)
  | afterRepeatedStart
deriving DecidableEq, Repr

/-- The request that waits for the transaction to end (R107). -/
inductive Deferred where
  | none | descOpen | reset
deriving DecidableEq, Repr

/-- How the part last drove SB_SDA for a byte (R120): released, low for an acknowledge, high for none, a data byte. -/
inductive SdaDrive where
  | released
  | ack
  | nack
  | data (b : Byte)
deriving DecidableEq, Repr

/-- The Descriptor Store and Sideband Port (R107). `passCount` is the count of the checksum pass in progress (R117),
`passLatest` the time of the part's own clock by which the pass in progress has ended (R117, R127, R130). -/
structure Desc where
  store : List Host.Cell
  state : DescState
  published : Nat
  page : Fin 4
  readOffset : Byte
  bus : BusWait
  transaction : Option Transaction
  deferred : Deferred
  readyLow : Time
  holdDownEnd : Option Time
  passCount : Nat
  passLatest : Option Nat
  sda : SdaDrive
deriving DecidableEq, Repr

/-! ### LMON (R132) -/

/-- The usable rate classes (R134). Class NONE is `none` of an Option. -/
inductive RateClass where
  | r10 | r100 | r1000
deriving DecidableEq, Repr

/-- The link state, with the settling class and the settle end where R132 has them present. -/
inductive Link where
  | down
  | settling (cls : RateClass) (settleEnd : Time)
  | up (cls : RateClass)
deriving DecidableEq, Repr

/-- A measurement: units of 1/16 kHz, and when it was taken (R132, R133). -/
structure Measured where
  value : Nat
  time : Time
deriving DecidableEq, Repr

/-- The Link Monitor (R132). Quarantined is "yes" exactly while the quarantine end is present. `intervalEnd` is the
end of the measurement interval that runs (R133). -/
structure Lmon where
  link : Link
  latest : Option Measured
  reference : Option Nat
  quarantineEnd : Option Time
  lastRecenter : Option Time
  recenters : Half
  firstUp : Bool
  fill : Nat
  intervalEnd : Time
deriving DecidableEq, Repr

/-! ### SHED (R151) -/

structure Shed where
  windowStart : Time
  windowMs : Nat
  counts : Vector Nat 4
  level : Fin 4
deriving DecidableEq, Repr

/-! ### TBA (R164) -/

/-- The state of an alarm timer; the remaining is held in RUNNING only (R164). -/
inductive AlarmState where
  | idle
  | running (remaining : Nat)
  | spent
deriving DecidableEq, Repr

/-- An alarm timer (R164). `nextTick` is the time base value of its next millisecond tick (R165, log 26). -/
structure Alarm where
  state : AlarmState
  initial : Word
  periodic : Bool
  phase : Time
  nextTick : Time
  expiries : Nat
deriving DecidableEq, Repr

/-! ### HLI (R174..R193) -/

/-- A host link message: the kind, tag and body of a request, response or notice (R174). -/
structure Message where
  kind : Byte
  tag : Byte
  body : List Byte
deriving DecidableEq, Repr

/-- The frame assembler (R175). `last` is when the last byte was taken and `limit` the gap limit read at the start
byte, both in nanoseconds of the part's own clock (R176). `taken` is oldest first. -/
inductive Assembler where
  | hunt
  | length (last limit : Nat)
  | gather (len : Nat) (taken : List Byte) (last limit : Nat)
deriving DecidableEq, Repr

/-- A frame in transmission on HL_TXD (R181) and the time of the part's own clock at which its last bit is sent (R173). -/
structure Outgoing where
  message : Message
  done : Nat
deriving DecidableEq, Repr

/-- Where the start-up stands (R192, R193): the clearing pass of a cold reset is awaited, STARTED is being sent, or
bytes are taken from HL_RXD. -/
inductive StartUp where
  | clearing | started | running
deriving DecidableEq, Repr

/-- The link side of HLI: assembler, request queue (the head may be executing), response slot, transmit side. -/
structure HostLink where
  assembler : Assembler
  requests : List Message
  executing : Bool
  slot : Option Message
  tx : Option Outgoing
  startUp : StartUp
  fastRate : Bool
deriving DecidableEq, Repr

/-- The sixteen event flags in the order of their numbers (R182). -/
inductive EventFlag where
  | factoryBad | wakeUnanswered | descFault | poolExhausted | linkDown | linkUp | quarantine | rateChanged
  | shedChanged | queueOverflow | logFull | alarm (timer : Fin 4) | linkFault
deriving DecidableEq, Repr

/-- The event flags, the notice mask and the pending notices, at most one per flag with the time of its rise (R182). -/
structure Events where
  flags : Half
  mask : Half
  notices : Vector (Option Time) 16
deriving DecidableEq, Repr

/-- A shed tier setting (R154). -/
structure Tier where
  enabled : Bool
  source : Fin 4
  threshold : Nat
  level : Fin 4
deriving DecidableEq, Repr

/-- The settings table (R187). -/
structure Settings where
  handoverDeadlineMs : Nat
  wakeAckTimeoutMs : Nat
  escalationPulseMs : Nat
  wakeOnLinkUp : Nat
  wakeOnLinkDown : Nat
  wakeOnSupplySwitch : Nat
  maxFrameBytes : Nat
  settleMs : Nat
  rateTolerancePermille : Nat
  recenterWindowMs : Nat
  quarantineMs : Nat
  quarantineEnable : Nat
  shedWindowMs : Nat
  tiers : Vector Tier 4
  holdDownMs : Nat
  sidebandStallMs : Nat
  linkGapExp : Nat
deriving DecidableEq, Repr

/-- The factory record in the one-time memory (R190). -/
structure FactoryRecord where
  station : Vector Byte 6
  serial : Vector Byte 8
  revision : Byte
  check : Half
deriving DecidableEq, Repr

/-- The factory record copy and the factory status (R190): `good` is GOOD; the identity is present exactly then. -/
structure FactoryCopy where
  station : Vector Byte 6
  serial : Vector Byte 8
  revision : Byte
  good : Bool
deriving DecidableEq, Repr

/-- The input lines whose level the rules test (R6, R135). -/
structure Pins where
  hostTxActive : Bool
  phyLink : Bool
deriving DecidableEq, Repr

end Sys2Proof.Machine
end

