-- ==== Sys2Proof/Machine/Bits.lean ====
section
/-! DEFINITION. Byte order and the two cyclic codes: numbers high byte first (R194), the 16-bit code of sections and
host link frames (R109, R174), and the 32-bit check sequence of Ethernet (R25). -/

namespace Sys2Proof.Machine

/-- The number `n` in `k` bytes, high byte first (R194). -/
def bytesBE : Nat → Nat → List Byte
  | 0, _ => []
  | k + 1, n => BitVec.ofNat 8 (n / 256 ^ k) :: bytesBE k n

/-- The number that bytes give, high byte first (R194). -/
def ofBytesBE (bytes : List Byte) : Nat := bytes.foldl (fun n b => n * 256 + b.toNat) 0

/-- A yes/no field or presence mark (R194). -/
def flagByte (b : Bool) : Byte := if b then 1 else 0

/-- A number that may be absent: a presence mark, then the number in `k` bytes, zeros when absent (R194). -/
def optBytes (k : Nat) : Option Nat → List Byte
  | none => 0 :: bytesBE k 0
  | some n => 1 :: bytesBE k n

/-! ### The 16-bit code -/

/-- One bit of the code x^16+x^12+x^5+1, most significant first (R109). -/
def crc16Bit (c : Half) : Half := if c.msb then (c <<< 1) ^^^ 0x1021 else c <<< 1

/-- One byte of the code. -/
def crc16Byte (c : Half) (b : Byte) : Half :=
  crc16Bit (crc16Bit (crc16Bit (crc16Bit (crc16Bit (crc16Bit (crc16Bit (crc16Bit
    (c ^^^ (b.setWidth 16 <<< 8)))))))))

/-- The code of a run of bytes: FFFFh at the first byte, not complemented (R109, R174). -/
def crc16 (bytes : List Byte) : Half := bytes.foldl crc16Byte 0xFFFF

/-- A check value in its two bytes, high byte first (R109, R174). -/
def crc16Bytes (bytes : List Byte) : List Byte := bytesBE 2 (crc16 bytes).toNat

/-! ### The 32-bit check sequence

The register is held with the bit of x^31 lowest, so that taking the bits of a byte least significant first shifts
down, and its lowest-order byte goes first on the line (R25, log 13). -/

/-- One bit of the Ethernet code. -/
def crc32Bit (c : Word) : Word := if c.getLsbD 0 then (c >>> 1) ^^^ 0xEDB88320 else c >>> 1

/-- One byte of the Ethernet code, bits taken least significant first (R25). -/
def crc32Byte (c : Word) (b : Byte) : Word :=
  crc32Bit (crc32Bit (crc32Bit (crc32Bit (crc32Bit (crc32Bit (crc32Bit (crc32Bit
    (c ^^^ b.setWidth 32))))))))

/-- The register at the first byte: all ones (R25). -/
def crc32Init : Word := 0xFFFFFFFF

/-- The four check bytes of a register: its complement, lowest-order byte first (R25). -/
def fcsBytes (register : Word) : List Byte :=
  [(~~~register).extractLsb' 0 8, (~~~register).extractLsb' 8 8,
   (~~~register).extractLsb' 16 8, (~~~register).extractLsb' 24 8]

/-- The check sequence of a run of bytes (R25, R83). -/
def checkSequence (bytes : List Byte) : List Byte := fcsBytes (bytes.foldl crc32Byte crc32Init)

end Sys2Proof.Machine
end

