-- ==== Sys2Proof/Machine/Cold.lean ====
section
/-! DEFINITION. Each block as a cold reset leaves it, rule by rule. Values the manual does not give: log 15, 16, 17, 18, 28. -/

namespace Sys2Proof.Machine

/-- PRC at cold reset (R19). -/
def Prc.cold : Prc where
  presence := .passive
  handoverDeadline := none
  wakeAckTimer := none
  escalations := 0
  pulseEnd := none
  pendingResponse := .none

/-- The pool at either hardware reset: ten FREE buffers (R36), contents unspecified: empty (DESIGN CHOICE, log 16). -/
def poolCold : Vector Buffer 10 := Vector.replicate 10 { owner := .free, bytes := [] }

/-- TXQ at either hardware reset (R92). -/
def Txq.cold : Txq := { queue := [], transmitter := .idle }

/-- WLOG at cold reset (R104). -/
def Wlog.cold : Wlog := { records := [], slots := Vector.replicate 2 none, nextSeq := some 1 }

/-- DESC at cold reset, its clearing pass begun, which ends within 1 ms (R127). The store is unspecified: nothing listed (DESIGN CHOICE, log 15). -/
def Desc.cold : Desc where
  store := []
  state := .clearing
  published := 0
  page := 0
  readOffset := 0
  bus := .nothing
  transaction := none
  deferred := .none
  readyLow := 0
  holdDownEnd := none
  passCount := 0
  passLatest := some Config.nsPerMs
  sda := .released

/-- LMON at cold reset at time base 0: the first measurement is 10 ms later (R148). -/
def Lmon.cold : Lmon where
  link := .down
  latest := none
  reference := none
  quarantineEnd := none
  lastRecenter := none
  recenters := 0
  firstUp := true
  fill := 0
  intervalEnd := BitVec.ofNat 48 Config.measureIntervalUs

/-- SHED at cold reset (R159). -/
def Shed.cold : Shed where
  windowStart := 0
  windowMs := 1000
  counts := Vector.replicate 4 0
  level := 0

/-- An alarm timer at cold reset and after a warm reset with ALARMS scope (R171). Phase and next tick 0: DESIGN
CHOICE (log 28), for an IDLE timer has neither. -/
def Alarm.cold : Alarm where
  state := .idle
  initial := 0
  periodic := false
  phase := 0
  nextTick := 0
  expiries := 0

/-- The four timers at cold reset (R171). -/
def alarmsCold : Vector Alarm 4 := Vector.replicate 4 Alarm.cold

/-- The link side of HLI at cold reset (R192), with the strap level sampled (R173). -/
def HostLink.cold (fast : Bool) : HostLink where
  assembler := .hunt
  requests := []
  executing := false
  slot := none
  tx := none
  startUp := .clearing
  fastRate := fast

/-- A tier at its default (R154). -/
def Tier.default : Tier := { enabled := false, source := 0, threshold := 65535, level := 1 }

/-- Every setting at its default (R187). -/
def Settings.default : Settings where
  handoverDeadlineMs := 10
  wakeAckTimeoutMs := 2000
  escalationPulseMs := 200
  wakeOnLinkUp := 0
  wakeOnLinkDown := 1
  wakeOnSupplySwitch := 1
  maxFrameBytes := 1518
  settleMs := 200
  rateTolerancePermille := 10
  recenterWindowMs := 50
  quarantineMs := 500
  quarantineEnable := 1
  shedWindowMs := 1000
  tiers := Vector.replicate 4 Tier.default
  holdDownMs := 150
  sidebandStallMs := 25
  linkGapExp := 4

/-- The first 15 bytes of the factory record, over which its check value runs (R190). -/
def FactoryRecord.covered (r : FactoryRecord) : List Byte :=
  r.station.toList ++ r.serial.toList ++ [r.revision]

/-- Reading the factory record into the copy at cold reset, with its code compared (R190). -/
def FactoryRecord.copy (r : FactoryRecord) : FactoryCopy where
  station := r.station
  serial := r.serial
  revision := r.revision
  good := crc16 r.covered == r.check

/-- The event flags, mask and notices at cold reset at time base 0: a bad factory record has raised FACTORY_BAD,
flag 0, whose notice is pending because the mask is FFFFh (R186, R190, R192). -/
def Events.cold (factoryGood : Bool) : Events where
  flags := if factoryGood then 0 else 1
  mask := 0xFFFF
  notices := if factoryGood then Vector.replicate 16 none
    else (Vector.replicate 16 none).set 0 (some 0)

/-- The counter bank at cold reset (R41). -/
def countersCold : Vector Word 23 := Vector.replicate 23 0

/-- The one-time memory of the model's example part: the station address of section 4.6, serial number and revision
zero, and the check value that makes the record good (DESIGN CHOICE, log 17). -/
def FactoryRecord.example4120 : FactoryRecord where
  station := #v[0x02, 0x4C, 0x57, 0x00, 0x41, 0x20]
  serial := Vector.replicate 8 0
  revision := 0
  check := crc16 ([0x02, 0x4C, 0x57, 0x00, 0x41, 0x20] ++ List.replicate 9 0)

end Sys2Proof.Machine
end

