-- ==== Sys2Proof/Machine/Memory.lean ====
section
/-! DEFINITION. The descriptor store as sparse memory: (position, byte) pairs, positions strictly rising, no pair whose
byte is 00h, what an unlisted position reads as (R127: the clearing pass leaves 00h at every position). -/

namespace Sys2Proof.Machine.Memory

/-- What a position that is not listed reads as (R127). -/
def blank : Byte := 0

/-- The byte at a position (R107). -/
def read : List Host.Cell → Nat → Byte
  | [], _ => blank
  | (p, b) :: rest, a => if a = p then b else read rest a

/-- Write one byte, keeping the form: writing `blank` removes the position. -/
def write : List Host.Cell → Nat → Byte → List Host.Cell
  | [], a, v => if v = blank then [] else [(a, v)]
  | (p, b) :: rest, a, v =>
    if a < p then (if v = blank then (p, b) :: rest else (a, v) :: (p, b) :: rest)
    else if a = p then (if v = blank then rest else (a, v) :: rest)
    else (p, b) :: write rest a v

/-- Write a run of bytes from a position on, in order (R114). -/
def writeRun (m : List Host.Cell) (a : Nat) : List Byte → List Host.Cell
  | [] => m
  | b :: bs => writeRun (write m a b) (a + 1) bs

/-- Read `n` bytes from a position on, in order (R115). -/
def readRun (m : List Host.Cell) : Nat → Nat → List Byte
  | _, 0 => []
  | a, n + 1 => read m a :: readRun m (a + 1) n

/-- Every listed position is at least `low`, rising, none reads as an unlisted one. -/
def wfFrom : Nat → List Host.Cell → Bool
  | _, [] => true
  | low, (p, b) :: rest => decide (low ≤ p) && (b != blank) && wfFrom (p + 1) rest

/-- The canonical form. -/
def wf (m : List Host.Cell) : Bool := wfFrom 0 m

end Sys2Proof.Machine.Memory
end

