-- ==== Sys2Proof/Machine/State.lean ====
section
/-! DEFINITION. The state of the part, block by block, the reasons a step can stop, and the state after cold reset. -/

namespace Sys2Proof.Machine

/-- Everything the manual gives the part, in plain data. `otp` is the one-time memory, `clock` the part's own clock in
nanoseconds (log 2), `free` how many free values have been read (log 28), `pending` the commands not yet taken. The
outputs LINE_SEL, WAKE, ESCALATE, READY and PHY_TXEN are functions of it (Machine/Ops.lean). -/
structure State where
  pins : Pins
  otp : FactoryRecord
  time : Time
  clock : Nat
  prc : Prc
  rxp : Rxp
  pool : Vector Buffer 10
  filters : List FilterRecord
  answers : Vector (Option AnswerEntry) 32
  templates : Vector (Option Template) 16
  txq : Txq
  wlog : Wlog
  desc : Desc
  lmon : Lmon
  shed : Shed
  alarms : Vector Alarm 4
  link : HostLink
  events : Events
  settings : Settings
  factory : FactoryCopy
  counters : Vector Word 23
  free : Nat
  pending : List Instr
deriving DecidableEq, Repr

/-- The reasons the machine could stop with a fault: none. The manual gives every command an effect in every state
and names no trap; a request that cannot be done is answered with a status (R180). -/
inductive Fault where
deriving DecidableEq, Repr

/-- The reasons a command could be refused. -/
inductive Refusal where
  /-- Raised by `exec`'s arm of a command that has no meaning yet; no arm of this model does. Safe: the machine stops. -/
  | notModelled (mnemonic : String)
deriving DecidableEq, Repr

/-- The part as a cold reset leaves it, given what a reset does not set: the input levels, the one-time memory, the
sampled HL_RATE strap, the free-value counter and the commands not yet taken (R19, R30, R36, R41, R57, R79, R92,
R104, R127, R148, R159, R163, R171, R186, R188, R190, R192). -/
def State.coldStart (pins : Pins) (otp : FactoryRecord) (fast : Bool) (free : Nat) (pending : List Instr) : State where
  pins := pins
  otp := otp
  time := 0
  clock := 0
  prc := Prc.cold
  rxp := .idle
  pool := poolCold
  filters := []
  answers := Vector.replicate 32 none
  templates := Vector.replicate 16 none
  txq := Txq.cold
  wlog := Wlog.cold
  desc := Desc.cold
  lmon := Lmon.cold
  shed := Shed.cold
  alarms := alarmsCold
  link := HostLink.cold fast
  events := Events.cold otp.copy.good
  settings := Settings.default
  factory := otp.copy
  counters := countersCold
  free := free
  pending := pending

/-- The machine right after a power-up cold reset: input lines and the HL_RATE strap low (DESIGN CHOICE, log 18), the
example part's one-time memory (DESIGN CHOICE, log 17), no free value read, no command waiting. -/
def State.reset : State :=
  State.coldStart { hostTxActive := false, phyLink := false } FactoryRecord.example4120 false 0 []

end Sys2Proof.Machine
end

