-- ==== Sys2Proof/Machine/Flags.lean ====
section
/-! DEFINITION. What the part reports of itself: the event flags with their notices, and the counter bank. -/

namespace Sys2Proof.Machine

/-! ### Event flags and notices (R182..R185) -/

/-- The number of a flag, which is its priority, 0 the highest (R182). -/
def EventFlag.number : EventFlag → Fin 16
  | .factoryBad => 0
  | .wakeUnanswered => 1
  | .descFault => 2
  | .poolExhausted => 3
  | .linkDown => 4
  | .linkUp => 5
  | .quarantine => 6
  | .rateChanged => 7
  | .shedChanged => 8
  | .queueOverflow => 9
  | .logFull => 10
  | .alarm t => ⟨11 + t.val, by omega⟩
  | .linkFault => 15

/-- The bit of flag number `n` in a flag set (R194). -/
def flagBit (n : Fin 16) : Half := 1#16 <<< n.val

/-- A raise: a clear flag becomes set, with a notice at this time if its mask bit is set; a set one stays (R182). -/
def Events.raise (e : Events) (f : EventFlag) (now : Time) : Events :=
  if e.flags.getLsbD f.number then e
  else
    { e with
      flags := e.flags ||| flagBit f.number
      notices := if e.mask.getLsbD f.number then e.notices.set f.number (some now) else e.notices }

/-- The pending notices without those whose bit of `m` is set (R183). -/
def Events.dropNotices (e : Events) (m : Half) : Vector (Option Time) 16 :=
  Vector.ofFn fun i => if m.getLsbD i then none else e.notices[i]

/-- EVENTS_CLEAR: the named flags become clear and their pending notices go (R184). -/
def Events.clear (e : Events) (m : Half) : Events :=
  { e with flags := e.flags &&& ~~~m, notices := e.dropNotices m }

/-- NOTICE_MASK: the mask becomes `m`; pending notices whose bit is now clear go (R185). -/
def Events.setMask (e : Events) (m : Half) : Events :=
  { e with mask := m, notices := e.dropNotices (~~~m) }

/-- The pending set of EVENTS_GET: one bit for each flag whose notice is pending (R184). -/
def Events.pendingSet (e : Events) : Half :=
  (List.finRange 16).foldl (fun m i => if e.notices[i].isSome then m ||| flagBit i else m) 0

/-- The pending notice of lowest flag number (R183). -/
def Events.firstPending (e : Events) : Option (Fin 16) :=
  (List.finRange 16).find? fun i => e.notices[i].isSome

/-- A block raises a flag at HLI, stamped with the time base (R182). -/
def State.raise (s : State) (f : EventFlag) : State := { s with events := s.events.raise f s.time }

/-! ### The counter bank (R37) -/

/-- The position of a counter in the bank (R37). -/
def Counter.position : Counter → Fin 23
  | .rxGood => 0
  | .rxCheckError => 1
  | .rxFragment => 2
  | .rxUndersize => 3
  | .rxOversize => 4
  | .rxJabber => 5
  | .rxNoBuffer => 6
  | .rxLinkDiscard => 7
  | .blocked => 8
  | .wakeMatches => 9
  | .answerMatches => 10
  | .unmatched => 11
  | .answersSent => 12
  | .answersPaced => 13
  | .answersShed => 14
  | .answersQueueFull => 15
  | .answersNoBuffer => 16
  | .answersFlushed => 17
  | .linkBadFrames => 18
  | .linkDroppedFrames => 19
  | .linkGapTimeouts => 20
  | .sidebandReads => 21
  | .sidebandRefusals => 22

/-- The value of a counter. -/
def State.counter (s : State) (c : Counter) : Word := s.counters[c.position]

/-- One increment: 32 bits, wrapping to 0 with no flag (R37). -/
def State.count (s : State) (c : Counter) : State :=
  { s with counters := s.counters.set c.position (s.counters[c.position] + 1) }

/-! ### Counts that stop (R46, R60, R99, R153, R166) -/

/-- A count that stops at its highest value. -/
def stopAt (top n : Nat) : Nat := if n < top then n + 1 else top

end Sys2Proof.Machine
end

