-- ==== Sys2Proof/Machine/Operands.lean ====
section
/-! DEFINITION. The forms of the host link's bodies (R194): the codes of the enumerations, the records as bytes, and
the reading of request bodies, which answers `none` where the body's length is not what its own counts imply (R180). -/

namespace Sys2Proof.Machine

/-! ### Codes (R180, R194) -/

/-- The status codes of R180. -/
inductive Status where
  | ok | busy | wrongState | badArgument | noRoom | notFound | noIdentity | pendingWakes | unknownKind | badLength | inUse
deriving DecidableEq, Repr

def Status.code : Status → Byte
  | .ok => 0
  | .busy => 1
  | .wrongState => 2
  | .badArgument => 3
  | .noRoom => 4
  | .notFound => 5
  | .noIdentity => 6
  | .pendingWakes => 7
  | .unknownKind => 8
  | .badLength => 9
  | .inUse => 10

def Presence.code : Presence → Byte
  | .passive => 0
  | .entering => 1
  | .proxy => 2
  | .waking => 3
  | .escalated => 4
  | .leaving => 5

def DescState.code : DescState → Byte
  | .clearing => 0
  | .empty => 1
  | .editing => 2
  | .summing => 3
  | .holddown => 4
  | .published => 5
  | .verifying => 6
  | .faulted => 7

def Link.code : Link → Byte
  | .down => 0
  | .settling _ _ => 1
  | .up _ => 2

/-- The rate class codes; `none` is class NONE. -/
def rateClassCode : Option RateClass → Byte
  | none => 0
  | some .r10 => 1
  | some .r100 => 2
  | some .r1000 => 3

def FilterAction.code : FilterAction → Byte
  | .wake => 0
  | .wakeAnswer => 1
  | .block => 2

def FilterAction.ofCode (b : Byte) : Option FilterAction :=
  if b = 0 then some .wake else if b = 1 then some .wakeAnswer else if b = 2 then some .block else none

def AnswerClass.code : AnswerClass → Byte
  | .essential => 0
  | .routine => 1
  | .courtesy => 2

def AnswerClass.ofCode (b : Byte) : Option AnswerClass :=
  if b = 0 then some .essential else if b = 1 then some .routine else if b = 2 then some .courtesy else none

def WakeCause.code : WakeCause → Byte
  | .filter => 0
  | .alarm => 1
  | .linkUp => 2
  | .linkDown => 3
  | .descFault => 4
  | .supplySwitch => 5

def AlarmState.code : AlarmState → Byte
  | .idle => 0
  | .running _ => 1
  | .spent => 2

def CopySource.code : CopySource → Byte
  | .frame => 0
  | .station => 1

def CopySource.ofCode (b : Byte) : Option CopySource :=
  if b = 0 then some .frame else if b = 1 then some .station else none

/-- A yes/no field's code; any other byte is undefined (R194). -/
def yesNo (b : Byte) : Option Bool := if b = 0 then some false else if b = 1 then some true else none

/-- The factory status code: 0 GOOD, 1 BAD. -/
def FactoryCopy.statusCode (f : FactoryCopy) : Byte := if f.good then 0 else 1

/-! ### Pattern terms (R42, R44) -/

def Quad.bytes (q : Quad) : List Byte := [q.b0, q.b1, q.b2, q.b3]

/-- A pattern term in its nine bytes (R194). -/
def Term.bytes (t : Term) : List Byte := t.offset :: (t.value.bytes ++ t.mask.bytes)

/-- A pattern: its term count, then the terms in list order (R194). -/
def patternBytes (p : List Term) : List Byte := BitVec.ofNat 8 p.length :: p.flatMap Term.bytes

/-- Exactly `n` terms of nine bytes each, and nothing after them. -/
def readTerms : Nat → List Byte → Option (List Term)
  | 0, [] => some []
  | 0, _ :: _ => none
  | n + 1, o :: v0 :: v1 :: v2 :: v3 :: m0 :: m1 :: m2 :: m3 :: rest =>
    (readTerms n rest).map (⟨o, ⟨v0, v1, v2, v3⟩, ⟨m0, m1, m2, m3⟩⟩ :: ·)
  | _ + 1, _ => none

/-- A pattern is well formed: 1..8 terms, every offset in 0..252 (R44). -/
def patternWellFormed (p : List Term) : Bool :=
  1 ≤ p.length && p.length ≤ 8 && p.all fun t => t.offset.toNat ≤ 252

/-! ### Filter records (R45, R47) -/

/-- A filter record in 5 + 9t bytes (R194). -/
def FilterRecord.bytes (r : FilterRecord) : List Byte :=
  bytesBE 2 r.label.toNat ++ [r.action.code, flagByte r.isProtected] ++ patternBytes r.pattern

/-- The fields of a FILTER_INSERT body as they stand in it: position, label, action, protected, terms (R47, R194). -/
structure FilterForm where
  position : Nat
  label : Half
  action : Byte
  isProtected : Byte
  pattern : List Term
deriving DecidableEq, Repr

def FilterForm.read : List Byte → Option FilterForm
  | p :: l1 :: l0 :: a :: pr :: t :: rest =>
    (readTerms t.toNat rest).map fun ts => ⟨p.toNat, l1 ++ l0, a, pr, ts⟩
  | _ => none

/-- The record of a form whose fields are all in range, with hit count 0 (R46, R47). -/
def FilterForm.record (f : FilterForm) : Option FilterRecord :=
  match FilterAction.ofCode f.action, yesNo f.isProtected with
  | some a, some pr => if patternWellFormed f.pattern then some ⟨f.label, a, pr, f.pattern, 0⟩ else none
  | _, _ => none

/-! ### Answer entries (R58, R75) -/

/-- An answer entry in 6 + 9t bytes (R194). -/
def AnswerEntry.bytes (e : AnswerEntry) : List Byte :=
  [e.cls.code, BitVec.ofNat 8 e.template.val] ++ bytesBE 2 e.pacing.toNat ++ [flagByte e.isProtected] ++ patternBytes e.pattern

/-- The fields of an ANSWER_SET body: index, class, template id, pacing, protected, terms (R75, R194). -/
structure AnswerForm where
  index : Nat
  cls : Byte
  template : Nat
  pacing : Half
  isProtected : Byte
  pattern : List Term
deriving DecidableEq, Repr

def AnswerForm.read : List Byte → Option AnswerForm
  | i :: c :: tid :: p1 :: p0 :: pr :: t :: rest =>
    (readTerms t.toNat rest).map fun ts => ⟨i.toNat, c, tid.toNat, p1 ++ p0, pr, ts⟩
  | _ => none

/-! ### Templates (R68, R69, R72) -/

/-- A copy operation in four bytes (R194). -/
def CopyOp.bytes (o : CopyOp) : List Byte := [o.source.code, o.srcOffset, o.dstOffset, o.len]

/-- A template in 3 + n + 4m bytes (R194). -/
def Template.bytes (id : Fin 16) (t : Template) : List Byte :=
  [BitVec.ofNat 8 id.val, BitVec.ofNat 8 t.body.length] ++ t.body
    ++ [BitVec.ofNat 8 t.edits.length] ++ t.edits.flatMap CopyOp.bytes

/-- Exactly `n` operations of four bytes each: source, source offset, destination offset, length. -/
def readOps : Nat → List Byte → Option (List Quad)
  | 0, [] => some []
  | 0, _ :: _ => none
  | n + 1, a :: b :: c :: d :: rest => (readOps n rest).map (⟨a, b, c, d⟩ :: ·)
  | _ + 1, _ => none

/-- The fields of a TEMPLATE_SET body: id, body, the operations' bytes (R72, R194). -/
structure TemplateForm where
  id : Nat
  body : List Byte
  ops : List Quad
deriving DecidableEq, Repr

def TemplateForm.read : List Byte → Option TemplateForm
  | id :: n :: rest =>
    match rest.drop n.toNat with
    | m :: opBytes => (readOps m.toNat opBytes).map fun ops => ⟨id.toNat, rest.take n.toNat, ops⟩
    | [] => none
  | _ => none

/-- A well-formed copy operation for a body of `n` bytes (R69): FRAME takes 1..16 bytes, STATION source offset 0 and
length 6; the destination offset is 0..127 and the bytes written lie inside the body. -/
def copyOpOf (n : Nat) (q : Quad) : Option CopyOp :=
  match CopySource.ofCode q.b0 with
  | none => none
  | some src =>
    let fields : Bool := match src with
      | .frame => 1 ≤ q.b3.toNat && q.b3.toNat ≤ 16
      | .station => q.b1 == 0 && q.b3 == 6
    if fields && q.b2.toNat ≤ 127 && q.b2.toNat + q.b3.toNat ≤ n then some ⟨src, q.b1, q.b2, q.b3⟩ else none

/-- An edit list all of whose operations are well formed for the body's length, in order. -/
def editListOf (n : Nat) : List Quad → Option (List CopyOp)
  | [] => some []
  | q :: qs =>
    match copyOpOf n q, editListOf n qs with
    | some o, some os => some (o :: os)
    | _, _ => none

/-! ### Descriptor bodies (R114) -/

/-- The fields of a DESC_WRITE body: offset and the counted bytes (R114, R194). -/
def readDescWrite : List Byte → Option (Nat × List Byte)
  | o1 :: o0 :: n :: bytes => if bytes.length = n.toNat then some (ofBytesBE [o1, o0], bytes) else none
  | _ => none

/-! ### Wake records (R94) -/

/-- A wake record in 19 bytes (R194). -/
def WakeRecord.bytes (r : WakeRecord) : List Byte :=
  bytesBE 4 r.seq.toNat ++ bytesBE 6 r.time.toNat ++ [r.cause.code]
    ++ optBytes 2 (r.detail.map BitVec.toNat)
    ++ (match r.capture with
        | none => bytesBE 4 0
        | some c => [1, BitVec.ofNat 8 c.slot.val] ++ bytesBE 2 c.received)
    ++ bytesBE 1 r.coalesced

/-! ### Settings (R187) -/

/-- A number setting by its identifier; none for a tier's or no identifier. -/
def Settings.number (t : Settings) : Nat → Option Nat
  | 1 => some t.handoverDeadlineMs
  | 2 => some t.wakeAckTimeoutMs
  | 3 => some t.escalationPulseMs
  | 4 => some t.wakeOnLinkUp
  | 5 => some t.wakeOnLinkDown
  | 6 => some t.wakeOnSupplySwitch
  | 7 => some t.maxFrameBytes
  | 8 => some t.settleMs
  | 9 => some t.rateTolerancePermille
  | 10 => some t.recenterWindowMs
  | 11 => some t.quarantineMs
  | 12 => some t.quarantineEnable
  | 13 => some t.shedWindowMs
  | 18 => some t.holdDownMs
  | 19 => some t.sidebandStallMs
  | 20 => some t.linkGapExp
  | _ => none

/-- The range of a number setting (R187). -/
def settingRange : Nat → Option (Nat × Nat)
  | 1 => some (1, 100)
  | 2 => some (100, 60000)
  | 3 => some (10, 1000)
  | 4 => some (0, 1)
  | 5 => some (0, 1)
  | 6 => some (0, 1)
  | 7 => some (64, 2048)
  | 8 => some (10, 2000)
  | 9 => some (1, 50)
  | 10 => some (1, 1000)
  | 11 => some (10, 10000)
  | 12 => some (0, 1)
  | 13 => some (100, 10000)
  | 18 => some (100, 1000)
  | 19 => some (5, 200)
  | 20 => some (1, 6)
  | _ => none

/-- Write a number setting by its identifier. -/
def Settings.setNumber (t : Settings) (id v : Nat) : Settings :=
  match id with
  | 1 => { t with handoverDeadlineMs := v }
  | 2 => { t with wakeAckTimeoutMs := v }
  | 3 => { t with escalationPulseMs := v }
  | 4 => { t with wakeOnLinkUp := v }
  | 5 => { t with wakeOnLinkDown := v }
  | 6 => { t with wakeOnSupplySwitch := v }
  | 7 => { t with maxFrameBytes := v }
  | 8 => { t with settleMs := v }
  | 9 => { t with rateTolerancePermille := v }
  | 10 => { t with recenterWindowMs := v }
  | 11 => { t with quarantineMs := v }
  | 12 => { t with quarantineEnable := v }
  | 13 => { t with shedWindowMs := v }
  | 18 => { t with holdDownMs := v }
  | 19 => { t with sidebandStallMs := v }
  | 20 => { t with linkGapExp := v }
  | _ => t

/-- The tier number of a tier setting's identifier: 14..17 are shed_tier_0..shed_tier_3 (R187). -/
def tierOf (id : Nat) : Option (Fin 4) :=
  if id = 14 then some 0 else if id = 15 then some 1 else if id = 16 then some 2 else if id = 17 then some 3 else none

/-- A tier in its four bytes: enable; source high and level low; threshold (R194). -/
def Tier.bytes (t : Tier) : List Byte :=
  [flagByte t.enabled, BitVec.ofNat 8 (t.source.val * 16 + t.level.val)] ++ bytesBE 2 t.threshold

/-- The tier four bytes give, when each of its fields lies in its range (R154, R187, R194). -/
def Tier.ofBytes (b0 b1 b2 b3 : Byte) : Option Tier :=
  match yesNo b0 with
  | none => none
  | some en =>
    let source := b1.toNat / 16
    let level := b1.toNat % 16
    let threshold := ofBytesBE [b2, b3]
    if h : source < 4 ∧ 1 ≤ level ∧ level < 4 ∧ 1 ≤ threshold then
      some ⟨en, ⟨source, h.1⟩, threshold, ⟨level, h.2.2.1⟩⟩
    else none

/-- The 4-byte value of a setting (R194); none for an identifier outside 1..20. -/
def Settings.value (t : Settings) (id : Nat) : Option (List Byte) :=
  match tierOf id with
  | some k => some t.tiers[k].bytes
  | none => (t.number id).map (bytesBE 4)

/-- The table after a setting takes a 4-byte value; none where the value is out of the setting's range or the
identifier is outside 1..20 (R187). -/
def Settings.write (t : Settings) (id : Nat) (b0 b1 b2 b3 : Byte) : Option Settings :=
  match tierOf id with
  | some k => (Tier.ofBytes b0 b1 b2 b3).map fun tier => { t with tiers := t.tiers.set k tier }
  | none =>
    match settingRange id with
    | none => none
    | some (lo, hi) =>
      let v := ofBytesBE [b0, b1, b2, b3]
      if lo ≤ v ∧ v ≤ hi then some (t.setNumber id v) else none

end Sys2Proof.Machine
end

