-- ==== Sys2Proof/Machine/Ops.lean ====
section
/-! DEFINITION. The operations the commands share, block by block: outputs, responses, wake causes, the pool, cutting
and flushing, the switches of the line, the descriptor's shared steps, load reports, free values. -/

namespace Sys2Proof.Machine

/-! ### Outputs (R1, R3, R80, R110) -/

/-- PROXY, WAKING and ESCALATED are the proxy states (R1). -/
def Presence.isProxy : Presence → Bool
  | .proxy | .waking | .escalated => true
  | .passive | .entering | .leaving => false

/-- LINE_SEL points to the part exactly in PROXY, WAKING, ESCALATED and LEAVING (R1). -/
def State.lineSelPart (s : State) : Bool := s.prc.presence.isProxy || s.prc.presence == .leaving

/-- WAKE is high exactly in WAKING and ESCALATED (R1). -/
def State.wakeLine (s : State) : Bool := s.prc.presence == .waking || s.prc.presence == .escalated

/-- ESCALATE is high exactly during an escalation pulse (R3). -/
def State.escalateLine (s : State) : Bool := s.prc.pulseEnd.isSome

/-- READY is high exactly in PUBLISHED (R110). -/
def State.readyLine (s : State) : Bool := s.desc.state == .published

/-- PHY_TXEN is high exactly in SENDING (R80). -/
def State.phyTxen (s : State) : Bool :=
  match s.txq.transmitter with
  | .sending _ _ => true
  | .idle | .gap _ => false

/-- The link is ready while UP and not quarantined (R23, R132). -/
def State.linkReady (s : State) : Bool :=
  match s.lmon.link with
  | .up _ => s.lmon.quarantineEnd.isNone
  | .down | .settling _ _ => false

/-! ### Free values and the part's own clock -/

/-- Read one free value: State moves on to the next (log 28). -/
def State.drawFree (s : State) : Nat × State := (Config.freeNat s.free, { s with free := s.free + 1 })

/-- The own-clock time `ms` milliseconds from now (log 2). -/
def State.inMs (s : State) (ms : Nat) : Nat := s.clock + ms * Config.nsPerMs

/-! ### Frames on HL_TXD (R173, R174, R181) -/

/-- The bytes of a frame that its check covers: length, kind, tag and body (R174). -/
def Message.covered (m : Message) : List Byte :=
  BitVec.ofNat 8 (m.body.length + 2) :: m.kind :: m.tag :: m.body

/-- A whole host link frame as its bytes on the line (R174). -/
def Message.bytes (m : Message) : List Byte := 0xA5 :: (m.covered ++ crc16Bytes m.covered)

/-- The time of `n` bytes of ten bits on HL_TXD, in nanoseconds: 10 µs each at 1,000,000 baud, 781250/9 ns each at
115,200 baud, rounded up (R173). -/
def lineNs (fast : Bool) (n : Nat) : Nat := if fast then n * 10000 else (n * 781250 + 8) / 9

/-- A frame of L + 4 bytes begins transmission on HL_TXD (R174, R181). -/
def State.send (s : State) (m : Message) : State :=
  { s with link := { s.link with tx := some ⟨m, s.clock + lineNs s.link.fastRate (m.body.length + 6)⟩ } }

/-! ### Responses (R178, R180) -/

/-- A response's kind: the request's plus 80h, or FFh for a kind byte of 80h..FFh (R180). -/
def responseKind (kind : Byte) : Byte := if kind.toNat < 0x80 then kind + 0x80 else 0xFF

/-- The effect of the executing request is complete: its response enters the slot and it leaves the queue (R178). -/
def State.respond (s : State) (st : Status) (fields : List Byte) : State :=
  match s.link.requests with
  | [] => s
  | r :: rest =>
    { s with link := { s.link with
        requests := rest
        executing := false
        slot := some ⟨responseKind r.kind, r.tag, st.code :: fields⟩ } }

/-! ### The pool (R31..R34) -/

/-- The lowest-numbered FREE buffer (R32). -/
def State.firstFree (s : State) : Option (Fin 10) :=
  (List.finRange 10).find? fun i => s.pool[i].owner == .free

/-- How many buffers are FREE (R31). -/
def State.freeCount (s : State) : Nat :=
  ((List.finRange 10).filter fun i => s.pool[i].owner == .free).length

/-- A buffer as its holder leaves it. -/
def State.setBuffer (s : State) (i : Fin 10) (b : Buffer) : State := { s with pool := s.pool.set i b }

/-- A buffer becomes FREE; its bytes stay and nothing reads them (R34). -/
def State.freeBuffer (s : State) (i : Fin 10) : State := s.setBuffer i { s.pool[i] with owner := .free }

/-- A claim: the lowest-numbered FREE buffer becomes the claimant's, to be written from its first byte; with none
FREE the claim is refused and POOL raises POOL_EXHAUSTED (R32, R33, R34). -/
def State.claim (s : State) (owner : Owner) : Option (Fin 10) × State :=
  match s.firstFree with
  | some i => (some i, s.setBuffer i ⟨owner, []⟩)
  | none => (none, s.raise .poolExhausted)

/-! ### Wake causes (R9, R95..R100) -/

/-- WLOG's report to PRC: in PROXY the state becomes WAKING with a fresh wake-ack timer (R9). -/
def State.reportWake (s : State) : State :=
  match s.prc.presence with
  | .proxy =>
    { s with prc := { s.prc with
        presence := .waking
        escalations := 0
        wakeAckTimer := some (s.inMs s.settings.wakeAckTimeoutMs) } }
  | .passive | .entering | .waking | .escalated | .leaving => s

/-- The lowest-numbered free capture slot (R98). -/
def Wlog.freeSlot (w : Wlog) : Option (Fin 2) := (List.finRange 2).find? fun k => w.slots[k].isNone

/-- How many capture slots are in use (R93). -/
def Wlog.slotsInUse (w : Wlog) : Nat := ((List.finRange 2).filter fun k => w.slots[k].isSome).length

/-- The sequence number after `q`: from FFFFFFFFh it is exhausted (R97, R100). -/
def nextSequence (q : Word) : Option Word := if q = 0xFFFFFFFF then none else some (q + 1)

/-- A record joins at the tail (R97); a FILTER cause with a free slot makes a capture (R98, R35). -/
def State.addRecord (s : State) (q : Word) (o : Offer) : State :=
  match o.frame, s.wlog.freeSlot with
  | some (b, len), some k =>
    { s.setBuffer b { s.pool[b] with owner := .captured } with
      wlog := { s.wlog with
        records := s.wlog.records ++ [⟨q, s.time, o.cause, o.detail, some ⟨k, len⟩, 0⟩]
        slots := s.wlog.slots.set k (some b)
        nextSeq := nextSequence q } }
  | _, _ =>
    { s with wlog := { s.wlog with
        records := s.wlog.records ++ [⟨q, s.time, o.cause, o.detail, none, 0⟩]
        nextSeq := nextSequence q } }

/-- One more cause counted in the newest record, stopping at 255 (R99). -/
def coalesceNewest : List WakeRecord → List WakeRecord
  | [] => []
  | [r] => [{ r with coalesced := stopAt 255 r.coalesced }]
  | r :: rest => r :: coalesceNewest rest

/-- The cause is coalesced and LOG_FULL raised; with an empty log in the exhausted state only the raise (R99, R100). -/
def State.coalesce (s : State) : State :=
  { s with wlog := { s.wlog with records := coalesceNewest s.wlog.records } }.raise .logFull

/-- Whether an offer's setting allows it as a cause, read as WLOG takes the offer (R95, R141). -/
def State.causeAllowed (s : State) (o : Offer) : Bool :=
  match o.cause with
  | .linkDown => s.settings.wakeOnLinkDown == 1
  | .linkUp => !o.first && s.settings.wakeOnLinkUp == 1
  | .filter | .alarm | .descFault | .supplySwitch => true

/-- WLOG takes an offered cause: dropped if its setting does not allow it or outside the proxy states, else added, or
coalesced with 8 records or no sequence number left, and reported to PRC (R95, R96, R97, R99, R100). -/
def State.takeCause (s : State) (o : Offer) : State :=
  if s.causeAllowed o && s.prc.presence.isProxy then
    match s.wlog.nextSeq with
    | some q =>
      if s.wlog.records.length < Config.logCapacity then (s.addRecord q o).reportWake else s.coalesce.reportWake
    | none => s.coalesce.reportWake
  else s

/-! ### Load reports (R153) -/

/-- A block reports one count of a load source to SHED; a count stops at 65535 (R153). -/
def State.report (s : State) (source : Fin 4) : State :=
  { s with shed := { s.shed with counts := s.shed.counts.set source (stopAt 65535 s.shed.counts[source]) } }

/-! ### The frame in reception (R23, R28) -/

/-- Whether a frame is in reception: STORING, STREAMING and DISCARDING (R23). -/
def Rxp.inReception : Rxp → Bool
  | .storing _ _ | .streaming _ | .discarding _ => true
  | .idle | .ignoring => false

/-- A cut ends the frame in reception: counted RX_LINK_DISCARD, its buffer freed, the remainder ignored (R28). -/
def State.cutFrame (s : State) : State :=
  match s.rxp with
  | .storing b _ => ({ s with rxp := .ignoring }.freeBuffer b).count .rxLinkDiscard
  | .streaming _ | .discarding _ => { s with rxp := .ignoring }.count .rxLinkDiscard
  | .idle | .ignoring => s

/-! ### The transmitter (R83, R84, R86, R87) -/

/-- The byte time of a rate class, in nanoseconds (R83, R134). -/
def RateClass.byteNs : RateClass → Nat
  | .r10 => 800
  | .r100 => 80
  | .r1000 => 8

/-- GAP for 12 byte times from now; with the link not UP there is no byte time and no gap (R84). -/
def State.gapFromNow (s : State) : Transmitter :=
  match s.lmon.link with
  | .up c => .gap (s.clock + 12 * c.byteNs)
  | .down | .settling _ _ => .idle

/-- Replies removed by a flush: each counts ANSWERS_FLUSHED and its buffer becomes FREE (R86, R87). -/
def State.flushReplies (s : State) : List QueuedReply → State
  | [] => s
  | r :: rest => ((s.freeBuffer r.buf).count .answersFlushed).flushReplies rest

/-- RECLAIM's flush: every reply but the one in transmission (R87). -/
def State.flushWaiting (s : State) : State :=
  match s.txq.transmitter with
  | .sending _ _ => { s with txq := { s.txq with queue := s.txq.queue.take 1 } }.flushReplies (s.txq.queue.drop 1)
  | .idle | .gap _ => { s with txq := { s.txq with queue := [] } }.flushReplies s.txq.queue

/-! ### The switches of the line (R2, R6, R7, R16) -/

/-- LINE_SEL turns to the part at the end of ENTERING: a frame in reception is cut, a gap begins where the link is UP,
and the HANDOVER response goes out with its forced field (R2, R6, R7, R84). -/
def State.switchToPart (s : State) (forced : Bool) : State :=
  let s := s.cutFrame
  { s with
    prc := { s.prc with
      presence := .proxy
      handoverDeadline := none
      wakeAckTimer := none
      escalations := 0
      pendingResponse := .none }
    txq := { s.txq with transmitter := s.gapFromNow } }.respond .ok [flagByte forced]

/-- The test of ENTERING's wait: HOST_TX_ACTIVE low and no frame in reception (R6). In other states nothing (R8). -/
def State.testWait (s : State) : State :=
  if s.prc.presence == .entering && !s.pins.hostTxActive && !s.rxp.inReception then s.switchToPart false else s

/-- The end of LEAVING: LINE_SEL turns to the processor, which cuts a frame in reception; the RECLAIM response carries
the escalation count as it stood, which becomes 0 (R2, R13, R16). -/
def State.leavingEnd (s : State) : State :=
  let s := s.cutFrame
  let escalations := s.prc.escalations
  { s with prc := { s.prc with presence := .passive, escalations := 0, pendingResponse := .none } }.respond .ok
    [0, BitVec.ofNat 8 escalations.val]

/-- A cut reported to PRC for the wait of ENTERING (R28, R6). -/
def State.cutAndReport (s : State) : State :=
  if s.rxp.inReception then s.cutFrame.testWait else s

/-- The link leaving UP flushes the whole queue, cuts a reply in transmission and ends a gap; a cut reported in LEAVING
ends LEAVING (R86, R17). -/
def State.linkFlush (s : State) : State :=
  let cut := s.phyTxen
  let flushed := { s with txq := Txq.cold }.flushReplies s.txq.queue
  if cut && s.prc.presence == .leaving then flushed.leavingEnd else flushed

/-- The link leaves UP for `dest` (R139). LINK_DOWN and its cause are taken under the presence state the event finds,
then the frame in reception is cut and the queue flushed (log 12). -/
def State.leaveUp (s : State) (dest : Link) : State :=
  let s := { s with lmon := { s.lmon with link := dest, quarantineEnd := none, lastRecenter := none } }
  let s := (s.raise .linkDown).takeCause ⟨.linkDown, none, false, none⟩
  s.cutAndReport.linkFlush

/-! ### The descriptor store (R107..R130) -/

/-- The content bytes of a section (R108). -/
def sectionContent (store : List Host.Cell) (k : Nat) : List Byte :=
  Memory.readRun store (Config.sectionSize * k) 126

/-- A section is good when its last two bytes hold the code of the rest (R109). -/
def sectionGood (store : List Host.Cell) (k : Nat) : Bool :=
  Memory.readRun store (Config.sectionSize * k + 126) 2 == crc16Bytes (sectionContent store k)

/-- The checksum pass writes a section's code (R117). -/
def sumSection (store : List Host.Cell) (k : Nat) : List Host.Cell :=
  Memory.writeRun store (Config.sectionSize * k + 126) (crc16Bytes (sectionContent store k))

/-- The checksum pass over sections 0..n−1, in ascending order (R117). -/
def sumSections (store : List Host.Cell) : Nat → List Host.Cell
  | 0 => store
  | n + 1 => sumSection (sumSections store n) n

/-- Every section below `n` is good (R110, R130). -/
def sectionsGood (store : List Host.Cell) : Nat → Bool
  | 0 => true
  | n + 1 => sectionsGood store n && sectionGood store n

/-- The byte the sideband reader is sent at (page, offset): the stored byte of a published section, else FFh (R108, R123). -/
def Desc.sidebandByte (d : Desc) : Byte :=
  let position := 256 * d.page.val + d.readOffset.toNat
  if position / Config.sectionSize < d.published then Memory.read d.store position else 0xFF

/-- Leaving PUBLISHED: READY falls with the state the caller gives, the READY-low time is now, page select and read
offset become 0 (R111). -/
def State.leavePublished (s : State) (dest : DescState) : State :=
  { s with desc := { s.desc with state := dest, readyLow := s.time, page := 0, readOffset := 0 } }

/-- The clearing pass begins; it takes at most 1 ms (R127, R128). -/
def State.beginClearing (s : State) : State :=
  { s with desc := { s.desc with state := .clearing, holdDownEnd := none, passLatest := some (s.inMs 1) } }

/-- The length of the hold-down in microseconds, by the setting at this moment (R118). -/
def State.holdDownUs (s : State) : Nat := s.settings.holdDownMs * Config.usPerMs

/-- The hold-down at the end of a pass: PUBLISHED if its end has been reached, else HOLDDOWN with that end (R118). -/
def State.applyHoldDown (s : State) : State :=
  if s.holdDownUs ≤ s.time.since s.desc.readyLow then
    { s with desc := { s.desc with state := .published, holdDownEnd := none } }
  else
    { s with desc := { s.desc with state := .holddown, holdDownEnd := some (s.desc.readyLow.after s.holdDownUs) } }

/-- Whole milliseconds from now to a time base value, rounded up (R117, R147). -/
def State.msUntil (s : State) (t : Time) : Nat := (t.since s.time + 999) / Config.usPerMs

/-- The hold-down remaining, 0 outside HOLDDOWN (R117). -/
def State.holdDownRemaining (s : State) : Nat :=
  match s.desc.holdDownEnd with
  | some e => s.msUntil e
  | none => 0

/-- The deferred request is taken at the end of the transaction (R113, R124, R125, R128). -/
def State.takeDeferred (s : State) : State :=
  match s.desc.deferred with
  | .none => s
  | .descOpen =>
    let s := s.leavePublished .editing
    { s with desc := { s.desc with deferred := .none } }.respond .ok [DescState.published.code, 1]
  | .reset =>
    let s := (s.leavePublished .clearing).beginClearing
    { s with desc := { s.desc with deferred := .none } }

end Sys2Proof.Machine
end

