-- ==== Sys2Proof/Machine/Timing.lean ====
section
/-! DEFINITION. When a timed event has come: each test is used by the event's own meaning and by the idle step, which
takes an event that has come before it lets time pass (R162, log 1, 3). -/

namespace Sys2Proof.Machine

/-- The handover deadline has expired in ENTERING (R7). -/
def State.handoverDeadlineDue (s : State) : Bool :=
  match s.prc.handoverDeadline with
  | some t => s.prc.presence == .entering && t ≤ s.clock
  | none => false

/-- The wake-ack timer has expired, in WAKING, or in ESCALATED with count 1 (R11, R12). -/
def State.wakeAckTimerDue (s : State) : Bool :=
  match s.prc.wakeAckTimer with
  | some t =>
    (s.prc.presence == .waking || (s.prc.presence == .escalated && s.prc.escalations == 1)) && t ≤ s.clock
  | none => false

/-- The escalation pulse's time has run out (R3). -/
def State.pulseDue (s : State) : Bool :=
  match s.prc.pulseEnd with
  | some t => t ≤ s.clock
  | none => false

/-- The start condition of a transmission (R82). -/
def State.startCondition (s : State) : Bool :=
  match s.txq.transmitter, s.lmon.link with
  | .idle, .up _ => !s.txq.queue.isEmpty && s.lineSelPart
  | _, _ => false

/-- The gap end has been reached (R84). -/
def State.gapDue (s : State) : Bool :=
  match s.txq.transmitter with
  | .gap t => t ≤ s.clock
  | .idle | .sending _ _ => false

/-- The last byte of the transmission has had its byte time (R83). -/
def State.transmissionDue (s : State) : Bool :=
  match s.txq.transmitter with
  | .sending _ t => t ≤ s.clock
  | .idle | .gap _ => false

/-- The last bit of the frame on HL_TXD has been sent (R173). -/
def State.frameSentDue (s : State) : Bool :=
  match s.link.tx with
  | some o => o.done ≤ s.clock
  | none => false

/-- The end of the pass in progress, when the pass has taken its longest time (R117, R127, R130). -/
def State.duePassEnd (s : State) : List Instr :=
  match s.desc.passLatest with
  | none => []
  | some t =>
    if t ≤ s.clock then
      match s.desc.state with
      | .clearing => [.clearingPassEnd]
      | .summing => [.checksumPassEnd]
      | .verifying => [.verifyPassEnd]
      | .empty | .editing | .holddown | .published | .faulted => []
    else []

/-- The time base has reached the hold-down end in HOLDDOWN (R118). -/
def State.holdDownDue (s : State) : Bool := s.desc.state == .holddown && s.desc.holdDownEnd == some s.time

/-- The stall time has passed since the transaction's start condition (R125). -/
def State.stallDue (s : State) : Bool :=
  match s.desc.transaction with
  | some t => t.stallMs * Config.usPerMs ≤ s.time.since t.start
  | none => false

/-- The time base has reached the settle end in SETTLING (R137). -/
def State.settleDue (s : State) : Bool :=
  match s.lmon.link with
  | .settling _ e => e == s.time
  | .down | .up _ => false

/-- The time base has reached the quarantine end (R145). -/
def State.quarantineDue (s : State) : Bool := s.lmon.quarantineEnd == some s.time

/-- The measurement interval ends now (R133). -/
def State.measurementDue (s : State) : Bool := s.lmon.intervalEnd == s.time

/-- The shed window's length has passed since its start (R152). -/
def State.windowDue (s : State) : Bool := s.shed.windowMs * Config.usPerMs ≤ s.time.since s.shed.windowStart

/-- The timer is RUNNING and its remaining has reached 0 (R165, R166). -/
def State.alarmDue (s : State) (n : Fin 4) : Bool := s.alarms[n].state == .running 0

/-- The limit between two bytes of a host link frame has passed (R176). -/
def State.gapTimeoutDue (s : State) : Bool :=
  match s.link.assembler with
  | .hunt => false
  | .length last limit | .gather _ _ last limit => last + limit ≤ s.clock

/-- Whether bytes are taken from HL_RXD: not before STARTED has been sent (R192, R193). -/
def State.takesBytes (s : State) : Bool := s.link.startUp == .running

/-- A timer's millisecond tick as the time base reaches it: the remaining falls by 1 (R165). -/
def Alarm.tick (a : Alarm) (now : Time) : Alarm :=
  match a.state with
  | .running r =>
    if a.nextTick = now then { a with state := .running (r - 1), nextTick := a.nextTick.after Config.usPerMs } else a
  | .idle | .spent => a

/-- One microsecond of the part's own clock: the time base rises by 1 and the alarm timers take their ticks (R162, R165). -/
def State.tick (s : State) : State :=
  let now := s.time + 1
  { s with time := now, clock := s.clock + Config.nsPerUs, alarms := s.alarms.map fun a => a.tick now }

/-- The events that have come and that the part takes of itself. A measurement no command has brought takes a free
count of receive clock cycles (log 5). -/
def State.dueEvents (s : State) : List Instr :=
  (if s.handoverDeadlineDue then [Instr.handoverDeadlineExpiry] else [])
    ++ (if s.wakeAckTimerDue then [Instr.wakeAckTimerExpiry] else [])
    ++ (if s.pulseDue then [Instr.escalationPulseEnd] else [])
    ++ (if s.gapDue then [Instr.gapEnd] else [])
    ++ (if s.startCondition then [Instr.transmissionStart] else [])
    ++ (if s.transmissionDue then [Instr.transmissionEnd] else [])
    ++ (if s.frameSentDue then [Instr.hostLinkFrameSent] else [])
    ++ s.duePassEnd
    ++ (if s.holdDownDue then [Instr.holdDownEnd] else [])
    ++ (if s.stallDue then [Instr.stallTimeout] else [])
    ++ (if s.settleDue then [Instr.settleEnd] else [])
    ++ (if s.quarantineDue then [Instr.quarantineEnd] else [])
    ++ (if s.windowDue then [Instr.windowEnd] else [])
    ++ (if s.gapTimeoutDue then [Instr.gapTimeout] else [])
    ++ (if s.measurementDue then [Instr.measurement (Config.freeNat s.free)] else [])
    ++ ((List.finRange 4).filter s.alarmDue).map Instr.alarmExpiry

/-- Which of several due events is taken first: any of them, by a free value (the manual gives no order, log 4). -/
def chooseDue (choice : Nat) : List Instr → Option Instr
  | [] => none
  | c :: rest => some ((c :: rest).getD (choice % (c :: rest).length) c)

/-- The due event taken next, if any is due. -/
def State.nextDue (s : State) : Option Instr := chooseDue (Config.freeNat (s.free + 1)) s.dueEvents

/-- The state after the choice, which read two free values: the measurement's cycles and the choice. -/
def State.afterChoice (s : State) : State := { s with free := s.free + 2 }

end Sys2Proof.Machine
end

