-- ==== Sys2Proof/Machine/Filters.lean ====
section
/-! DEFINITION. Pattern matching and the filter list's requests (chapter 3). -/

namespace Sys2Proof.Machine

/-! ### Matching (R42, R43, R44) -/

/-- Whether one position of the stored bytes agrees: bits the mask selects are equal; a position the frame does not
hold agrees only with mask 00h (R42, R43). -/
def positionAgrees (frame : List Byte) (p : Nat) (value mask : Byte) : Bool :=
  match frame[p]? with
  | some b => b &&& mask == value &&& mask
  | none => mask == 0

/-- A term matches when all four positions agree (R42). -/
def Term.matches (t : Term) (frame : List Byte) : Bool :=
  let o := t.offset.toNat
  positionAgrees frame o t.value.b0 t.mask.b0 && positionAgrees frame (o + 1) t.value.b1 t.mask.b1
    && positionAgrees frame (o + 2) t.value.b2 t.mask.b2 && positionAgrees frame (o + 3) t.value.b3 t.mask.b3

/-- A pattern matches when every one of its terms does (R44). -/
def patternMatches (p : List Term) (frame : List Byte) : Bool := p.all fun t => t.matches frame

/-- The position of the first filter record that matches (R51). -/
def firstFilter (filters : List FilterRecord) (frame : List Byte) : Option Nat :=
  filters.findIdx? fun r => patternMatches r.pattern frame

/-! ### Requests (R47, R48, R49) -/

/-- The filter count as a response field. -/
def State.filterCount (s : State) : Byte := BitVec.ofNat 8 s.filters.length

/-- FILTER_INSERT (R47). -/
def runFilterInsert (body : List Byte) (s : State) : State :=
  match FilterForm.read body with
  | none => s.respond .badLength []
  | some form =>
    match form.record with
    | none => s.respond .badArgument [s.filterCount]
    | some r =>
      if s.filters.length < form.position then s.respond .badArgument [s.filterCount]
      else if Config.filterCapacity ≤ s.filters.length then s.respond .noRoom [s.filterCount]
      else
        let s := { s with filters := s.filters.insertIdx form.position r }
        s.respond .ok [s.filterCount]

/-- FILTER_REMOVE (R48): protection plays no part. -/
def runFilterRemove (body : List Byte) (s : State) : State :=
  match body with
  | [p] =>
    match s.filters[p.toNat]? with
    | none => s.respond .notFound [s.filterCount]
    | some r =>
      let s := { s with filters := s.filters.eraseIdx p.toNat }
      s.respond .ok ([s.filterCount] ++ bytesBE 2 r.label.toNat ++ [r.action.code] ++ bytesBE 2 r.hits)
  | _ => s.respond .badLength []

/-- FILTER_GET (R49). -/
def runFilterGet (body : List Byte) (s : State) : State :=
  match body with
  | [p] =>
    match s.filters[p.toNat]? with
    | none => s.respond .notFound [s.filterCount]
    | some r => s.respond .ok ([s.filterCount, p] ++ r.bytes ++ bytesBE 2 r.hits)
  | _ => s.respond .badLength []

/-- The filter list after a warm reset with TABLES scope: the protected records close up in order (R57). -/
def filtersAfterTablesReset (filters : List FilterRecord) : List FilterRecord := filters.filter (·.isProtected)

end Sys2Proof.Machine
end

