-- ==== Sys2Proof/Machine/Answers.lean ====
section
/-! DEFINITION. The answer table and the template store: matching, admission tests, building a reply, and the five
requests (chapter 4). -/

namespace Sys2Proof.Machine

/-! ### The table and the store -/

/-- The lowest index of an entry that names a template (R73). -/
def lowestNaming (answers : Vector (Option AnswerEntry) 32) (id : Fin 16) : Option (Fin 32) :=
  (List.finRange 32).find? fun i =>
    match answers[i] with
    | some e => e.template == id
    | none => false

/-- The lowest occupied slot whose pattern matches (R61). -/
def firstAnswer (answers : Vector (Option AnswerEntry) 32) (frame : List Byte) : Option (Fin 32) :=
  (List.finRange 32).find? fun i =>
    match answers[i] with
    | some e => patternMatches e.pattern frame
    | none => false

/-- Whether an Option holds a value, as a prior field (R72, R75, R76). -/
def priorByte {α : Type} (o : Option α) : Byte := flagByte o.isSome

/-! ### Admission (R63, R64) -/

/-- The pacing test refuses while the distance forward from the time base to quiet-until lies in 1..pacing (R63). -/
def AnswerEntry.paced (e : AnswerEntry) (now : Time) : Bool :=
  match e.quietUntil with
  | none => false
  | some q => 1 ≤ q.since now && q.since now ≤ e.pacing.toNat * Config.usPerMs

/-- The classes a shed level drops (R64). -/
def classDropped (level : Fin 4) : AnswerClass → Bool
  | .essential => level == 3
  | .routine => 2 ≤ level.val
  | .courtesy => 1 ≤ level.val

/-! ### Building a reply (R70) -/

/-- `bytes` written over a run from position `p` on. -/
def overwrite (run : List Byte) (p : Nat) (bytes : List Byte) : List Byte :=
  run.take p ++ bytes ++ run.drop (p + bytes.length)

/-- The bytes a copy operation takes: frame positions, 00h where the frame holds none, or the station address (R70). -/
def CopyOp.taken (o : CopyOp) (frame station : List Byte) : List Byte :=
  match o.source with
  | .frame => (List.range o.len.toNat).map fun k => (frame[o.srcOffset.toNat + k]?).getD 0
  | .station => station

/-- One copy operation applied to the reply being built (R70). -/
def CopyOp.apply (o : CopyOp) (frame station reply : List Byte) : List Byte :=
  overwrite reply o.dstOffset.toNat (o.taken frame station)

/-- The reply: the body, then the operations in list order, each reading the frame or the station address (R70). -/
def Template.build (t : Template) (frame station : List Byte) : List Byte :=
  t.edits.foldl (fun reply o => o.apply frame station reply) t.body

/-! ### Requests (R72..R77) -/

/-- A template id that can exist (R72). -/
def templateId (n : Nat) : Option (Fin 16) := if h : n < 16 then some ⟨n, h⟩ else none

/-- An index of the answer table (R75). -/
def answerIndex (n : Nat) : Option (Fin 32) := if h : n < 32 then some ⟨n, h⟩ else none

/-- TEMPLATE_SET with a body (R72). -/
def State.defineTemplate (s : State) (form : TemplateForm) : State :=
  match templateId form.id with
  | none => s.respond .badArgument []
  | some id =>
    if form.body.length < 14 || 128 < form.body.length || 8 < form.ops.length then s.respond .badArgument []
    else
      match editListOf form.body.length form.ops with
      | none => s.respond .badArgument []
      | some edits =>
        let prior := priorByte s.templates[id]
        { s with templates := s.templates.set id (some ⟨form.body, edits⟩) }.respond .ok [prior]

/-- TEMPLATE_SET with the empty body (R73). -/
def State.undefineTemplate (s : State) (form : TemplateForm) : State :=
  match templateId form.id with
  | none => s.respond .badArgument []
  | some id =>
    if form.ops.length ≠ 0 then s.respond .badArgument []
    else
      match lowestNaming s.answers id with
      | some i => s.respond .inUse [BitVec.ofNat 8 i.val]
      | none =>
        let prior := priorByte s.templates[id]
        { s with templates := s.templates.set id none }.respond .ok [prior]

/-- TEMPLATE_SET: a body length of 0 asks for the template to be undefined (R72, R73). -/
def runTemplateSet (body : List Byte) (s : State) : State :=
  match TemplateForm.read body with
  | none => s.respond .badLength []
  | some form => if form.body.length = 0 then s.undefineTemplate form else s.defineTemplate form

/-- TEMPLATE_GET (R74). -/
def runTemplateGet (body : List Byte) (s : State) : State :=
  match body with
  | [n] =>
    match templateId n.toNat with
    | none => s.respond .badArgument []
    | some id =>
      match s.templates[id] with
      | none => s.respond .notFound []
      | some t => s.respond .ok (t.bytes id)
  | _ => s.respond .badLength []

/-- The entry of a form whose fields are all in range and whose template is defined (R75). -/
def State.answerOf (s : State) (form : AnswerForm) : Option AnswerEntry :=
  match AnswerClass.ofCode form.cls, yesNo form.isProtected, templateId form.template with
  | some c, some pr, some id =>
    if patternWellFormed form.pattern && s.templates[id].isSome then
      some ⟨c, id, form.pattern, form.pacing, pr, 0, none⟩
    else none
  | _, _, _ => none

/-- ANSWER_SET (R75). -/
def runAnswerSet (body : List Byte) (s : State) : State :=
  match AnswerForm.read body with
  | none => s.respond .badLength []
  | some form =>
    match answerIndex form.index, s.answerOf form with
    | some i, some e =>
      let prior := priorByte s.answers[i]
      { s with answers := s.answers.set i (some e) }.respond .ok [prior]
    | _, _ => s.respond .badArgument []

/-- ANSWER_CLEAR (R76). -/
def runAnswerClear (body : List Byte) (s : State) : State :=
  match body with
  | [n] =>
    match answerIndex n.toNat with
    | none => s.respond .badArgument []
    | some i =>
      let old := s.answers[i]
      let hits := match old with
        | some e => e.hits
        | none => 0
      { s with answers := s.answers.set i none }.respond .ok (priorByte old :: bytesBE 2 hits)
  | _ => s.respond .badLength []

/-- ANSWER_GET (R77). -/
def runAnswerGet (body : List Byte) (s : State) : State :=
  match body with
  | [n] =>
    match answerIndex n.toNat with
    | none => s.respond .badArgument []
    | some i =>
      match s.answers[i] with
      | none => s.respond .notFound []
      | some e =>
        s.respond .ok ([n] ++ e.bytes ++ bytesBE 2 e.hits ++ optBytes 6 (e.quietUntil.map BitVec.toNat))
  | _ => s.respond .badLength []

/-! ### Warm reset, TABLES scope (R79) -/

/-- The answer table without its unprotected entries (R79). -/
def answersAfterTablesReset (answers : Vector (Option AnswerEntry) 32) : Vector (Option AnswerEntry) 32 :=
  answers.map fun slot => slot.filter (·.isProtected)

/-- The templates that a remaining entry still names (R79). -/
def templatesAfterTablesReset (answers : Vector (Option AnswerEntry) 32)
    (templates : Vector (Option Template) 16) : Vector (Option Template) 16 :=
  Vector.ofFn fun id => if (lowestNaming answers id).isSome then templates[id] else none

end Sys2Proof.Machine
end

