-- ==== Sys2Proof/Machine/Reception.lean ====
section
/-! DEFINITION. RXP and the walk: frames from the PHY, their classification, and what MATCH does with a good frame in a
proxy state (chapters 2, 3 and 4). -/

namespace Sys2Proof.Machine

/-! ### Bytes of a frame (R24, R25) -/

/-- A frame at its start, before its first byte (R24). -/
def RxFrame.atStart : RxFrame where
  received := 0
  crc := crc32Init
  tail := []
  damaged := false
  partialByte := false

/-- One byte of a frame: the received length, stopping at 65535, and the check state (R25). -/
def RxFrame.take (f : RxFrame) (b : Byte) : RxFrame :=
  match f.tail with
  | [w, x, y, z] =>
    { f with received := stopAt 65535 f.received, crc := crc32Byte f.crc w, tail := [x, y, z, b] }
  | tail => { f with received := stopAt 65535 f.received, tail := tail ++ [b] }

/-- The check is good: the last four whole bytes are the check sequence of the bytes before them (R25). -/
def RxFrame.checkGood (f : RxFrame) : Bool := f.tail == fcsBytes f.crc

/-- A byte stored in STORING while fewer than 256 are (R25). -/
def State.storeByte (s : State) (i : Fin 10) (b : Byte) : State :=
  if s.pool[i].bytes.length < Config.storedCapacity then
    s.setBuffer i { s.pool[i] with bytes := s.pool[i].bytes ++ [b] }
  else s

/-- RXP takes one byte of the frame in reception (R25). IDLE and IGNORING take none (R28). -/
def State.takeFrameByte (s : State) (b : Byte) : State :=
  match s.rxp with
  | .storing i f => { s with rxp := .storing i (f.take b) }.storeByte i b
  | .streaming f => { s with rxp := .streaming (f.take b) }
  | .discarding f => { s with rxp := .discarding (f.take b) }
  | .idle | .ignoring => s

/-- A frame starts when RXP, in IDLE, takes the first byte after a delimiter: the link is tested and a buffer claimed
(R24), then the byte is taken (R25). The fill is 8 as PHY_RXDV rises (R143, log 22). -/
def State.startFrame (s : State) (b : Byte) : State :=
  match s.rxp with
  | .idle =>
    let s := { s with lmon := { s.lmon with fill := 8 } }
    if s.linkReady then
      match s.claim .receiving with
      | (some i, s) => { s with rxp := .storing i .atStart }.takeFrameByte b
      | (none, s) => { s with rxp := .streaming .atStart }.takeFrameByte b
    else { s with rxp := .discarding .atStart }.takeFrameByte b
  | .storing _ _ | .streaming _ | .discarding _ | .ignoring => s

/-- PHY_RXER at a byte of a frame sets its damage mark; outside a frame it has no effect (R25). -/
def State.rxError (s : State) : State :=
  match s.rxp with
  | .storing i f => { s with rxp := .storing i { f with damaged := true } }
  | .streaming f => { s with rxp := .streaming { f with damaged := true } }
  | .discarding f => { s with rxp := .discarding { f with damaged := true } }
  | .idle | .ignoring => s

/-! ### Classification (R26) -/

/-- A frame is bad if its check is not good, its damage mark is set, or it ended with a partial byte (R26). -/
def RxFrame.bad (f : RxFrame) : Bool := !f.checkGood || f.damaged || f.partialByte

/-- The counter of an ended frame not in DISCARDING, by the tests 2 to 8 in order (R26). -/
def RxFrame.classify (f : RxFrame) (stored : Bool) (maxBytes : Nat) : Counter :=
  if f.received < 64 ∧ f.bad then .rxFragment
  else if f.received < 64 then .rxUndersize
  else if maxBytes < f.received ∧ f.bad then .rxJabber
  else if maxBytes < f.received then .rxOversize
  else if f.bad then .rxCheckError
  else if !stored then .rxNoBuffer
  else .rxGood

/-! ### The walk (R51..R55, R61..R67) -/

/-- The entry with one more hit, stopping at 65535 (R60). -/
def AnswerEntry.hit (e : AnswerEntry) : AnswerEntry := { e with hits := stopAt 65535 e.hits }

/-- The deciding entry's hit count rises (R60, R61). -/
def State.hitAnswer (s : State) (i : Fin 32) (e : AnswerEntry) : State := { s with answers := s.answers.set i (some e.hit) }

/-- An admitted reply: built into the granted buffer, appended at the tail, quiet-until set (R67, R70, R81). -/
def State.queueReply (s : State) (i : Fin 32) (e : AnswerEntry) (t : Template) (b : Fin 10) (frame : List Byte) : State :=
  let reply := t.build frame s.factory.station.toList
  { s.setBuffer b ⟨.queued, reply⟩ with
    txq := { s.txq with queue := s.txq.queue ++ [⟨b, t.body.length⟩] }
    answers := s.answers.set i (some { e with
      quietUntil := some (s.time.after (e.pacing.toNat * Config.usPerMs)) }) }

/-- The buffer-claim test and the building of the reply (R66, R67). Every entry names a defined template (R58). -/
def State.claimAndQueue (s : State) (i : Fin 32) (e : AnswerEntry) (frame : List Byte) : State :=
  match s.templates[e.template] with
  | none => s
  | some t =>
    match s.claim .queued with
    | (some b, s) => s.queueReply i e t b frame
    | (none, s) => s.count .answersNoBuffer

/-- The four admission tests in order; the first that refuses decides (R62..R66). -/
def State.admission (s : State) (i : Fin 32) (e : AnswerEntry) (frame : List Byte) : State :=
  if e.paced s.time then s.count .answersPaced
  else if classDropped s.shed.level e.cls then s.count .answersShed
  else if Config.queueCapacity ≤ s.txq.queue.length then (s.count .answersQueueFull).raise .queueOverflow
  else s.claimAndQueue i e frame

/-- The answer walk (R61). UNMATCHED rises when neither a filter nor an entry decided (R55). -/
def State.answerWalk (s : State) (frame : List Byte) (filterDecided : Bool) : State :=
  match firstAnswer s.answers frame with
  | none => if filterDecided then s else s.count .unmatched
  | some i =>
    match s.answers[i] with
    | none => s
    | some e => (((s.hitAnswer i e).count .answerMatches).report 2).admission i e.hit frame

/-- A filter record's hit count rises, stopping at 65535 (R46). -/
def State.hitFilter (s : State) (i : Nat) : State :=
  { s with filters := s.filters.modify i fun r => { r with hits := stopAt 65535 r.hits } }

/-- The FILTER cause of a WAKE or WAKE_ANSWER filter (R53). -/
def FilterRecord.offer (r : FilterRecord) (b : Fin 10) (received : Nat) : Offer :=
  ⟨.filter, some r.label, false, some (b, received)⟩

/-- What the deciding filter does (R52, R53, R54). -/
def State.decideByFilter (s : State) (r : FilterRecord) (b : Fin 10) (received : Nat) (frame : List Byte) : State :=
  match r.action with
  | .block => s.count .blocked
  | .wake => (s.count .wakeMatches).takeCause (r.offer b received)
  | .wakeAnswer => ((s.count .wakeMatches).takeCause (r.offer b received)).answerWalk frame true

/-- The filter walk, and the answer walk where the frame goes on (R51, R54). -/
def State.walkFrame (s : State) (b : Fin 10) (received : Nat) (frame : List Byte) : State :=
  match firstFilter s.filters frame with
  | none => s.answerWalk frame false
  | some i =>
    match s.filters[i]? with
    | none => s
    | some r => ((s.hitFilter i).report 1).decideByFilter r b received frame

/-- The last act of a walk: the receive buffer is freed unless it has become a capture (R55). -/
def State.disposeReceived (s : State) (b : Fin 10) : State :=
  if s.pool[b].owner == .receiving then s.freeBuffer b else s

/-- The walk of one frame, whole (R51). -/
def State.walk (s : State) (b : Fin 10) (received : Nat) : State :=
  (s.walkFrame b received s.pool[b].bytes).disposeReceived b

/-! ### The end of a frame (R26, R27) -/

/-- The frame is counted, and a good one reported to SHED as source 0 (R26). -/
def State.countFrame (s : State) (c : Counter) : State :=
  let s := s.count c
  if c = .rxGood ∨ c = .rxNoBuffer then s.report 0 else s

/-- The end of a frame in STORING: counted, then walked if RX_GOOD in a proxy state, else its buffer freed (R27). -/
def State.endStored (s : State) (b : Fin 10) (f : RxFrame) : State :=
  let c := f.classify true s.settings.maxFrameBytes
  let s := { s with rxp := .idle }.countFrame c
  if c = .rxGood ∧ s.prc.presence.isProxy then s.walk b f.received else s.freeBuffer b

/-- PHY_RXDV falls (R26, R27, R28). The end of a frame is reported to PRC for the wait of ENTERING (R6). -/
def State.endFrame (s : State) (partialByte : Bool) : State :=
  match s.rxp with
  | .idle => s
  | .ignoring => { s with rxp := .idle }
  | .storing b f => (s.endStored b { f with partialByte := partialByte }).testWait
  | .streaming f =>
    let f := { f with partialByte := partialByte }
    ({ s with rxp := .idle }.countFrame (f.classify false s.settings.maxFrameBytes)).testWait
  | .discarding _ => ({ s with rxp := .idle }.countFrame .rxLinkDiscard).testWait

end Sys2Proof.Machine
end

