-- ==== Sys2Proof/Machine/AlarmTimers.lean ====
section
/-! DEFINITION. The alarm timers: expiry, the three requests, and the supply-switch reset (chapter 10). -/

namespace Sys2Proof.Machine

/-- A timer number that can exist (R167). -/
def alarmNumber (n : Nat) : Option (Fin 4) := if h : n < 4 then some ⟨n, h⟩ else none

/-- The flag and the wake cause of an expiry of timer `n` (R166). -/
def State.announceExpiry (s : State) (n : Fin 4) : State :=
  (s.raise (.alarm n)).takeCause ⟨.alarm, some (BitVec.ofNat 16 n.val), false, none⟩

/-- A timer at its expiry: SPENT, or reloaded to `reload`; the count rises, stopping at 65535 (R166). -/
def Alarm.expire (a : Alarm) (reload : Nat) : Alarm :=
  { a with
    state := if a.periodic then .running reload else .spent
    expiries := stopAt 65535 a.expiries }

/-- The expiry of a RUNNING timer whose remaining has reached 0 (R166). -/
def State.alarmExpires (s : State) (n : Fin 4) : State :=
  if s.alarmDue n then
    { s with alarms := s.alarms.set n (s.alarms[n].expire s.alarms[n].initial.toNat) }.announceExpiry n
  else s

/-- A timer as ALARM_SET starts it at time base value `now` (R165, R167). -/
def Alarm.started (initial : Word) (periodic : Bool) (now : Time) : Alarm where
  state := .running initial.toNat
  initial := initial
  periodic := periodic
  phase := now
  nextTick := now.after Config.usPerMs
  expiries := 0

/-- ALARM_SET (R167): the timer starts afresh from this request. -/
def runAlarmSet (body : List Byte) (s : State) : State :=
  match body with
  | [n, i3, i2, i1, i0, p] =>
    let initial : Word := BitVec.ofNat 32 (ofBytesBE [i3, i2, i1, i0])
    match alarmNumber n.toNat, yesNo p with
    | some k, some periodic =>
      if initial = 0 then s.respond .badArgument []
      else
        let prior := s.alarms[k].state.code
        { s with alarms := s.alarms.set k (Alarm.started initial periodic s.time) }.respond .ok [n, prior]
    | _, _ => s.respond .badArgument []
  | _ => s.respond .badLength []

/-- The remaining of a RUNNING timer as it stands (R164, R168); 0 before an expiry that is due (R170, log 26). -/
def AlarmState.remaining : AlarmState → Option Nat
  | .running r => some r
  | .idle | .spent => none

/-- ALARM_STOP (R168). -/
def runAlarmStop (body : List Byte) (s : State) : State :=
  match body with
  | [n] =>
    match alarmNumber n.toNat with
    | none => s.respond .badArgument []
    | some k =>
      let a := s.alarms[k]
      { s with alarms := s.alarms.set k { a with state := .idle } }.respond .ok
        ([n, a.state.code] ++ optBytes 4 a.state.remaining)
  | _ => s.respond .badLength []

/-- The remaining as ALARM_GET reports it: 1 at the least in RUNNING, before an expiry that is due, too (R169, R170,
log 26); FFFFFFFFh in SPENT, absent in IDLE (R169). -/
def AlarmState.reported : AlarmState → Option Nat
  | .running r => some (max 1 r)
  | .spent => some 0xFFFFFFFF
  | .idle => none

/-- ALARM_GET (R169). -/
def runAlarmGet (body : List Byte) (s : State) : State :=
  match body with
  | [n] =>
    match alarmNumber n.toNat with
    | none => s.respond .badArgument []
    | some k =>
      let a := s.alarms[k]
      s.respond .ok ([n, a.state.code] ++ bytesBE 4 a.initial.toNat ++ [flagByte a.periodic]
        ++ optBytes 4 a.state.reported ++ bytesBE 2 a.expiries)
  | _ => s.respond .badLength []

/-- How many millisecond ticks of a timer fall in the `us` microseconds after time base value `t` (R165). -/
def Alarm.ticksWithin (a : Alarm) (t : Time) (us : Nat) : Nat :=
  let toNext := a.nextTick.since t
  if toNext ≤ us then 1 + (us - toNext) / Config.usPerMs else 0

/-- Whether a tick that falls in the reset takes the remaining to 0: an expiry taken at its end (R172). -/
def Alarm.expiresWithin (a : Alarm) (t : Time) (us : Nat) : Bool :=
  match a.state with
  | .running r => r ≤ a.ticksWithin t us
  | .idle | .spent => false

/-- A timer after a supply-switch reset that began at `t` and lasted `us`: its ticks went on; an expiry within it is
taken once, and a periodic timer's remaining runs to the next period boundary after the reset (R172). -/
def Alarm.acrossReset (a : Alarm) (t : Time) (us : Nat) : Alarm :=
  match a.state with
  | .idle | .spent => a
  | .running r =>
    let k := a.ticksWithin t us
    let ticked := { a with nextTick := a.nextTick.after (k * Config.usPerMs) }
    if k < r then { ticked with state := .running (r - k) }
    else ticked.expire (a.initial.toNat - (k - r) % a.initial.toNat)

end Sys2Proof.Machine
end

