-- ==== Sys2Proof/Machine/DescriptorStore.lean ====
section
/-! DEFINITION. The descriptor store's requests, passes and hold-down (chapter 7). -/

namespace Sys2Proof.Machine

/-- DESC_OPEN (R112, R113). In SUMMING it cannot execute (R112) and is answered BUSY like the other passes. -/
def runDescOpen (body : List Byte) (s : State) : State :=
  match body with
  | _ :: _ => s.respond .badLength []
  | [] =>
    match s.desc.state with
    | .clearing | .summing | .verifying => s.respond .busy [s.desc.state.code, 0]
    | .empty | .faulted =>
      { s with desc := { s.desc with state := .editing } }.respond .ok [s.desc.state.code, 0]
    | .holddown =>
      { s with desc := { s.desc with state := .editing, holdDownEnd := none } }.respond .ok [s.desc.state.code, 0]
    | .editing => s.respond .ok [s.desc.state.code, 0]
    | .published =>
      match s.desc.transaction with
      | none => (s.leavePublished .editing).respond .ok [s.desc.state.code, 0]
      | some _ => { s with desc := { s.desc with deferred := .descOpen } }

/-- Whether a pass that excludes reading and writing runs (R114, R115). -/
def DescState.inPass : DescState → Bool
  | .clearing | .summing | .verifying => true
  | .empty | .editing | .holddown | .published | .faulted => false

/-- The range test of DESC_WRITE and DESC_READ (R114, R115). -/
def descRange (offset count : Nat) : Bool :=
  1 ≤ count && count ≤ 64 && offset < Config.storeSize && offset + count ≤ Config.storeSize

/-- DESC_WRITE (R114). -/
def runDescWrite (body : List Byte) (s : State) : State :=
  match readDescWrite body with
  | none => s.respond .badLength []
  | some (offset, bytes) =>
    if s.desc.state.inPass then s.respond .busy []
    else if s.desc.state != .editing then s.respond .wrongState []
    else if descRange offset bytes.length then
      { s with desc := { s.desc with store := Memory.writeRun s.desc.store offset bytes } }.respond .ok []
    else s.respond .badArgument []

/-- DESC_READ (R115). -/
def runDescRead (body : List Byte) (s : State) : State :=
  match body with
  | [o1, o0, n] =>
    let offset := ofBytesBE [o1, o0]
    if s.desc.state.inPass then s.respond .busy []
    else if descRange offset n.toNat then
      s.respond .ok ([o1, o0, n] ++ Memory.readRun s.desc.store offset n.toNat)
    else s.respond .badArgument []
  | _ => s.respond .badLength []

/-- DESC_PUBLISH (R116): the checksum pass begins and the response waits for its end (R117). -/
def runDescPublish (body : List Byte) (s : State) : State :=
  match body with
  | [n] =>
    if s.desc.state != .editing then s.respond .wrongState []
    else if 1 ≤ n.toNat && n.toNat ≤ 8 then
      { s with desc := { s.desc with state := .summing, passCount := n.toNat, passLatest := some (s.inMs 2) } }
    else s.respond .badArgument []
  | _ => s.respond .badLength []

/-- The end of the checksum pass (R117): the codes stand, the published count is the request's, the hold-down applies,
the response goes out. -/
def State.checksumPassEnds (s : State) : State :=
  if s.desc.state == .summing then
    let n := s.desc.passCount
    let s := { s with desc := { s.desc with
        store := sumSections s.desc.store n, published := n, passCount := 0, passLatest := none } }.applyHoldDown
    s.respond .ok ([BitVec.ofNat 8 n, s.desc.state.code] ++ bytesBE 2 s.holdDownRemaining)
  else s

/-- The hold-down end: PUBLISHED, READY rises (R118). -/
def State.holdDownEnds (s : State) : State :=
  if s.holdDownDue then { s with desc := { s.desc with state := .published, holdDownEnd := none } } else s

/-- Whether the executing request is a RESET, which then waits for DESC's part of it (R128, R179). -/
def State.resetWaits (s : State) : Bool :=
  match s.link.requests with
  | r :: _ => s.link.executing && r.kind == 0x03
  | [] => false

/-- DESC's part of a RESET with DESCRIPTOR scope, by the state it finds (R128). In VERIFYING it waits for the verify
pass; SUMMING cannot be the state (log 25). -/
def State.resetDescriptorScope (s : State) : State :=
  match s.desc.state with
  | .clearing | .verifying => s
  | .empty | .editing | .faulted | .holddown | .summing => s.beginClearing
  | .published =>
    match s.desc.transaction with
    | none => (s.leavePublished .clearing).beginClearing
    | some _ => { s with desc := { s.desc with deferred := .reset } }

/-- STARTED begins transmission (R192, R193): kind 41h, tag 00h, the reset cause and the factory status (R194). -/
def State.sendStarted (s : State) (cause : Byte) : State :=
  let s := s.send ⟨0x41, 0, [cause, s.factory.statusCode]⟩
  { s with link := { s.link with startUp := .started } }

/-- The end of the clearing pass (R127): every position 00h, EMPTY, published count 0. At start-up STARTED follows
(R192); a RESET that waits is complete, its response carrying the scope (R128, R189). -/
def State.clearingPassEnds (s : State) : State :=
  if s.desc.state == .clearing then
    let s := { s with desc := { s.desc with store := [], state := .empty, published := 0, passLatest := none } }
    let s := if s.link.startUp == .clearing then s.sendStarted 0 else s
    if s.resetWaits then s.respond .ok (s.link.requests.head?.elim [] Message.body) else s
  else s

/-- The end of the verify pass (R130), and then the rows of R128 for a RESET that waits. -/
def State.verifyPassEnds (s : State) : State :=
  if s.desc.state == .verifying then
    let s := { s with desc := { s.desc with passLatest := none } }
    let s :=
      if sectionsGood s.desc.store s.desc.published then s.applyHoldDown
      else
        ({ s with desc := { s.desc with state := .faulted } }.raise .descFault).takeCause
          ⟨.descFault, none, false, none⟩
    if s.resetWaits then s.resetDescriptorScope else s
  else s

/-- How far a checksum pass had come when a supply switch cut it: any number of its sections (R117, log 20). -/
def State.partlySummed (s : State) : List Host.Cell :=
  sumSections s.desc.store (Config.freeNat s.free % (s.desc.passCount + 1))

/-- The longest time of the pass a supply-switch reset restarts, from the end of the reset (R127, R129, R130). -/
def State.passLatestAfterReset (s : State) : DescState → Option Nat
  | .clearing => some (s.inMs 1)
  | .verifying => some (s.inMs 2)
  | .empty | .editing | .summing | .holddown | .published | .faulted => none

/-- DESC after a supply-switch reset that began at time base value `t`; `s` stands at its end (R129). -/
def State.descAfterSupplySwitch (s : State) (t : Time) : Desc :=
  let d := s.desc
  let settled := match d.state with
    | .empty => DescState.empty
    | .clearing => .clearing
    | .editing | .summing => .editing
    | .holddown | .published | .verifying => .verifying
    | .faulted => .faulted
  { d with
    store := if d.state == .summing then s.partlySummed else d.store
    state := settled
    page := 0
    readOffset := 0
    bus := .nothing
    transaction := none
    deferred := .none
    readyLow := t
    holdDownEnd := none
    passCount := 0
    passLatest := s.passLatestAfterReset settled
    sda := .released }

end Sys2Proof.Machine
end

