-- ==== Sys2Proof/Machine/WakeLog.lean ====
section
/-! DEFINITION. The wake log's requests and its part of the resets (chapter 6). Taking a cause stands in Ops.lean. -/

namespace Sys2Proof.Machine

/-- A capture slot is freed and its buffer made FREE (R98). -/
def State.freeSlot (s : State) (k : Fin 2) : State :=
  match s.wlog.slots[k] with
  | none => s
  | some b => { s.freeBuffer b with wlog := { s.wlog with slots := s.wlog.slots.set k none } }

/-- The slot a record names is freed with it (R102). -/
def State.freeCaptureOf (s : State) (r : WakeRecord) : State :=
  match r.capture with
  | none => s
  | some c => s.freeSlot c.slot

/-- WAKELOG_TAKE (R102). -/
def runWakelogTake (body : List Byte) (s : State) : State :=
  match body with
  | _ :: _ => s.respond .badLength []
  | [] =>
    match s.wlog.records with
    | [] => s.respond .notFound [0]
    | r :: rest =>
      let s := { s with wlog := { s.wlog with records := rest } }.freeCaptureOf r
      s.respond .ok (BitVec.ofNat 8 rest.length :: r.bytes)

/-- The record that names a capture slot (R98). -/
def Wlog.recordOf (w : Wlog) (k : Fin 2) : Option WakeRecord :=
  w.records.find? fun r =>
    match r.capture with
    | some c => c.slot == k
    | none => false

/-- The bytes one half of a capture returns: 0..127, or 128 on (R103). -/
def captureHalf (stored : List Byte) (half : Nat) : List Byte := (stored.drop (128 * half)).take 128

/-- CAPTURE_GET (R103). -/
def runCaptureGet (body : List Byte) (s : State) : State :=
  match body with
  | [slot, half] =>
    if h : slot.toNat < 2 ∧ half.toNat < 2 then
      let k : Fin 2 := ⟨slot.toNat, h.1⟩
      match s.wlog.slots[k], s.wlog.recordOf k with
      | some b, some r =>
        let stored := s.pool[b].bytes
        let received := match r.capture with
          | some c => c.received
          | none => 0
        let bytes := captureHalf stored half.toNat
        s.respond .ok ([slot, half] ++ bytesBE 4 r.seq.toNat ++ bytesBE 2 received ++ bytesBE 2 stored.length
          ++ [BitVec.ofNat 8 bytes.length] ++ bytes)
      | _, _ => s.respond .notFound []
    else s.respond .badArgument []
  | _ => s.respond .badLength []

/-- The LOG scope: every record removed, both slots freed, the numbering kept (R105). -/
def State.resetLogScope (s : State) : State :=
  let s := (s.freeSlot 0).freeSlot 1
  { s with wlog := { s.wlog with records := [] } }

/-- The log after a supply-switch reset: every record kept, its capture and received length absent, both slots
free (R106). -/
def Wlog.afterSupplySwitch (w : Wlog) : Wlog :=
  { w with records := w.records.map fun r => { r with capture := none }, slots := Vector.replicate 2 none }

end Sys2Proof.Machine
end

