-- ==== Sys2Proof/Machine/HostRequests.lean ====
section
/-! DEFINITION. The requests HLI owns itself: identity, status, the warm reset, settings, the counter bank, event
flags and the notice mask (chapter 11, and R39 to R41). -/

namespace Sys2Proof.Machine

/-! ### Identity and status (R190, R191) -/

/-- IDENTIFY (R190). -/
def runIdentify (body : List Byte) (s : State) : State :=
  match body with
  | _ :: _ => s.respond .badLength []
  | [] =>
    let f := s.factory
    s.respond .ok (bytesBE 2 Config.partCode ++ [if f.good then f.revision else 0, f.statusCode, flagByte f.good]
      ++ (if f.good then f.station.toList ++ f.serial.toList else List.replicate 14 0))

/-- STATUS (R191). -/
def runStatus (body : List Byte) (s : State) : State :=
  match body with
  | _ :: _ => s.respond .badLength []
  | [] =>
    s.respond .ok ([s.prc.presence.code, s.desc.state.code, BitVec.ofNat 8 s.desc.published, s.lmon.link.code,
        flagByte s.lmon.quarantineEnd.isSome, BitVec.ofNat 8 s.shed.level.val, BitVec.ofNat 8 s.freeCount,
        BitVec.ofNat 8 s.txq.queue.length, BitVec.ofNat 8 s.wlog.records.length, BitVec.ofNat 8 s.wlog.slotsInUse]
      ++ bytesBE 6 s.time.toNat ++ bytesBE 2 s.events.flags.toNat)

/-! ### The warm reset (R189) -/

/-- The six members of a scope, in the order of their bits (R194). -/
inductive ScopeMember where
  | tables | log | counters | descriptor | settings | alarms
deriving DecidableEq, Repr

/-- The bit of a member in the scope byte (R194). -/
def ScopeMember.bit : ScopeMember → Byte
  | .tables => 0x01
  | .log => 0x02
  | .counters => 0x04
  | .descriptor => 0x08
  | .settings => 0x10
  | .alarms => 0x20

/-- Whether a scope byte names a member. -/
def names (scope : Byte) (m : ScopeMember) : Bool := scope &&& m.bit != 0

/-- TABLES: unprotected filter records and answer entries removed, then the templates no remaining entry names (R57, R79). -/
def State.resetTablesScope (s : State) : State :=
  let answers := answersAfterTablesReset s.answers
  { s with
    filters := filtersAfterTablesReset s.filters
    answers := answers
    templates := templatesAfterTablesReset answers s.templates }

/-- Every counter 0 (R40, R41). -/
def State.clearCounters (s : State) : State := { s with counters := countersCold }

/-- A named member's effect at its owner (R189): R57 and R79, R105, R41, R128, R188, R171. -/
def State.resetMember (s : State) : ScopeMember → State
  | .tables => s.resetTablesScope
  | .log => s.resetLogScope
  | .counters => s.clearCounters
  | .descriptor => s.resetDescriptorScope
  | .settings => { s with settings := Settings.default }
  | .alarms => { s with alarms := alarmsCold }

/-- Every named scope, each at its owner (R189). -/
def State.resetScopes (s : State) (scope : Byte) : State :=
  [ScopeMember.tables, .log, .counters, .descriptor, .settings, .alarms].foldl
    (fun s m => if names scope m then s.resetMember m else s) s

/-- RESET (R189): with DESCRIPTOR named the response waits for the clearing pass (R128, R179), else it goes at once. -/
def runReset (body : List Byte) (s : State) : State :=
  match body with
  | [scope] =>
    if scope &&& 0xC0 != 0 then s.respond .badArgument []
    else if s.prc.presence != .passive then s.respond .wrongState []
    else if names scope .descriptor then s.resetScopes scope
    else (s.resetScopes scope).respond .ok [scope]
  | _ => s.respond .badLength []

/-! ### Settings (R187) -/

/-- SETTING_SET (R187). -/
def runSettingSet (body : List Byte) (s : State) : State :=
  match body with
  | [id, b0, b1, b2, b3] =>
    match s.settings.value id.toNat, s.settings.write id.toNat b0 b1 b2 b3 with
    | some before, some table => { s with settings := table }.respond .ok (id :: before)
    | _, _ => s.respond .badArgument []
  | _ => s.respond .badLength []

/-- SETTING_GET (R187). -/
def runSettingGet (body : List Byte) (s : State) : State :=
  match body with
  | [id] =>
    match s.settings.value id.toNat with
    | some value => s.respond .ok (id :: value)
    | none => s.respond .badArgument []
  | _ => s.respond .badLength []

/-! ### The counter bank (R39, R40) -/

/-- COUNTERS_GET (R39): the 23 values in the order of R37, four bytes each. -/
def runCountersGet (body : List Byte) (s : State) : State :=
  match body with
  | _ :: _ => s.respond .badLength []
  | [] => s.respond .ok (s.counters.toList.flatMap fun c => bytesBE 4 c.toNat)

/-- COUNTERS_CLEAR (R40). -/
def runCountersClear (body : List Byte) (s : State) : State :=
  match body with
  | _ :: _ => s.respond .badLength []
  | [] => s.clearCounters.respond .ok []

/-! ### Event flags and the notice mask (R184, R185) -/

/-- EVENTS_GET (R184). -/
def runEventsGet (body : List Byte) (s : State) : State :=
  match body with
  | _ :: _ => s.respond .badLength []
  | [] =>
    s.respond .ok (bytesBE 2 s.events.flags.toNat ++ bytesBE 2 s.events.mask.toNat
      ++ bytesBE 2 s.events.pendingSet.toNat)

/-- EVENTS_CLEAR (R184). -/
def runEventsClear (body : List Byte) (s : State) : State :=
  match body with
  | [m1, m0] =>
    let s := { s with events := s.events.clear (m1 ++ m0) }
    s.respond .ok (bytesBE 2 s.events.flags.toNat)
  | _ => s.respond .badLength []

/-- NOTICE_MASK (R185). -/
def runNoticeMask (body : List Byte) (s : State) : State :=
  match body with
  | [m1, m0] =>
    let before := s.events.mask
    { s with events := s.events.setMask (m1 ++ m0) }.respond .ok (bytesBE 2 before.toNat)
  | _ => s.respond .badLength []

end Sys2Proof.Machine
end

