-- ==== Sys2Proof/Machine/LinkMonitor.lean ====
section
/-! DEFINITION. LMON: measurements, link states, recenters, quarantine, and LINK_GET (chapter 8). -/

namespace Sys2Proof.Machine

/-- A measurement from the receive clock cycles of a 10 ms interval: units of 1/16 kHz, rounded down, capped (R133). -/
def measurementOf (cycles : Nat) : Nat := min (cycles * 16 / 10) 4000000

/-- The class whose band holds a measurement, band ends included; `none` is class NONE (R134). -/
def classOf (m : Nat) : Option RateClass :=
  if 2375 * 16 ≤ m ∧ m ≤ 2625 * 16 then some .r10
  else if 23750 * 16 ≤ m ∧ m ≤ 26250 * 16 then some .r100
  else if 118750 * 16 ≤ m ∧ m ≤ 131250 * 16 then some .r1000
  else none

/-- SETTLING at a class, with the settle time read now (R135, R136, R138). -/
def State.settlingAt (s : State) (c : RateClass) : Link :=
  .settling c (s.time.after (s.settings.settleMs * Config.usPerMs))

/-- The pair of R135, tested in DOWN: PHY_LINK high and a usable latest measurement. -/
def State.testLinkPair (s : State) : State :=
  match s.lmon.latest with
  | none => s
  | some m =>
    match classOf m.value with
    | none => s
    | some c => if s.pins.phyLink then { s with lmon := { s.lmon with link := s.settlingAt c } } else s

/-- PHY_LINK rises (R135). -/
def State.phyLinkRises (s : State) : State :=
  let s := { s with pins := { s.pins with phyLink := true } }
  match s.lmon.link with
  | .down => s.testLinkPair
  | .settling _ _ | .up _ => s

/-- PHY_LINK falls (R135, R136, R138). -/
def State.phyLinkFalls (s : State) : State :=
  let s := { s with pins := { s.pins with phyLink := false } }
  match s.lmon.link with
  | .down => s
  | .settling _ _ => { s with lmon := { s.lmon with link := .down } }
  | .up _ => s.leaveUp .down

/-- Whether a measurement has changed the rate: it differs from the reference by more than the tolerance (R142). -/
def rateChanged (reference m permille : Nat) : Bool := reference * permille < ((m - reference) + (reference - m)) * 1000

/-- The rate-change test of a measurement in UP of the settling class (R142). -/
def State.testRate (s : State) (m : Nat) : State :=
  match s.lmon.reference with
  | none => s
  | some r =>
    if rateChanged r m s.settings.rateTolerancePermille then
      { s with lmon := { s.lmon with reference := some m } }.raise .rateChanged
    else s

/-- What a measurement does in each link state (R135, R136, R138, R142). -/
def State.actOnMeasurement (s : State) (m : Nat) : State :=
  match s.lmon.link with
  | .down => s.testLinkPair
  | .settling c _ =>
    match classOf m with
    | none => { s with lmon := { s.lmon with link := .down } }
    | some c' => if c' = c then s else { s with lmon := { s.lmon with link := s.settlingAt c' } }
  | .up c =>
    match classOf m with
    | none => s.leaveUp .down
    | some c' => if c' = c then s.testRate m else s.leaveUp (s.settlingAt c')

/-- The end of a measurement interval: the next begins, the measurement becomes the latest and acts (R133). -/
def State.takeMeasurement (s : State) (cycles : Nat) : State :=
  if s.measurementDue then
    let m := measurementOf cycles
    { s with lmon := { s.lmon with
        latest := some ⟨m, s.time⟩
        intervalEnd := s.lmon.intervalEnd.after Config.measureIntervalUs } }.actOnMeasurement m
  else s

/-- The settle end: the link enters UP, with LINK_UP raised and offered (R137, R141). -/
def State.entersUp (s : State) (c : RateClass) : State :=
  let first := s.lmon.firstUp
  let s := { s with lmon := { s.lmon with
      link := .up c
      reference := s.lmon.latest.map Measured.value
      quarantineEnd := none
      lastRecenter := none
      firstUp := false } }
  (s.raise .linkUp).takeCause ⟨.linkUp, none, first, none⟩

/-- The time base reaches the settle end (R136, R137). -/
def State.settles (s : State) : State :=
  match s.lmon.link with
  | .settling c _ => if s.settleDue then s.entersUp c else s
  | .down | .up _ => s

/-- A recenter reported to RXP marks a frame in STORING or STREAMING as damaged (R29). -/
def Rxp.damage : Rxp → Rxp
  | .storing b f => .storing b { f with damaged := true }
  | .streaming f => .streaming { f with damaged := true }
  | .discarding f => .discarding f
  | .idle => .idle
  | .ignoring => .ignoring

/-- Whether a recenter in UP, not quarantined, begins quarantine (R144). -/
def State.quarantineBegins (s : State) : Bool :=
  match s.lmon.lastRecenter with
  | none => false
  | some t =>
    s.settings.quarantineEnable == 1 && s.time.since t ≤ s.settings.recenterWindowMs * Config.usPerMs

/-- The quarantine end a recenter taken now gives (R144, R145). -/
def State.quarantineEndFromNow (s : State) : Time := s.time.after (s.settings.quarantineMs * Config.usPerMs)

/-- A recenter in UP: the quarantine test, or in quarantine its extension (R144, R145). -/
def State.recentersInUp (s : State) : State :=
  if s.lmon.quarantineEnd.isSome then
    { s with
      rxp := s.rxp.damage
      lmon := { s.lmon with
        lastRecenter := some s.time
        quarantineEnd := if s.settings.quarantineEnable == 1 then some s.quarantineEndFromNow
          else s.lmon.quarantineEnd } }
  else if s.quarantineBegins then
    ({ s with lmon := { s.lmon with
        lastRecenter := some s.time
        quarantineEnd := some s.quarantineEndFromNow } }.raise .quarantine).cutAndReport
  else { s with rxp := s.rxp.damage, lmon := { s.lmon with lastRecenter := some s.time } }

/-- A recenter: the fill is set back to 8, counted, reported to RXP, and in UP tested for quarantine (R143). -/
def State.recenters (s : State) : State :=
  let s := { s with lmon := { s.lmon with recenters := s.lmon.recenters + 1, fill := 8 } }
  match s.lmon.link with
  | .up _ => s.recentersInUp
  | .down | .settling _ _ => { s with rxp := s.rxp.damage }

/-- The quarantine end: reception is no longer held off; the last recenter is kept (R145). -/
def State.quarantineEnds (s : State) : State :=
  if s.quarantineDue then { s with lmon := { s.lmon with quarantineEnd := none } } else s

/-- The age of a measurement in whole ms, rounded down, 0..9 (R147): at the end of the interval, before the next
measurement is taken, it is 9 (log 32). -/
def State.measurementAge (s : State) (m : Measured) : Nat := min 9 (s.time.since m.time / Config.usPerMs)

/-- LINK_GET (R147). -/
def runLinkGet (body : List Byte) (s : State) : State :=
  match body with
  | _ :: _ => s.respond .badLength []
  | [] =>
    let l := s.lmon
    let quarantineMs := match l.quarantineEnd with
      | some e => s.msUntil e
      | none => 0
    let settleMs := match l.link with
      | .settling _ e => s.msUntil e
      | .down | .up _ => 0
    s.respond .ok ([l.link.code, flagByte l.quarantineEnd.isSome] ++ bytesBE 2 quarantineMs ++ bytesBE 2 settleMs
      ++ optBytes 1 (l.latest.map fun m => (rateClassCode (classOf m.value)).toNat)
      ++ optBytes 4 (l.latest.map Measured.value)
      ++ optBytes 1 (l.latest.map s.measurementAge)
      ++ optBytes 4 l.reference
      ++ bytesBE 2 l.recenters.toNat ++ [flagByte l.firstUp])

/-- LMON after a supply-switch reset that ends at time base value `t`: as at cold reset, the recenter count kept (R149). -/
def Lmon.afterSupplySwitch (l : Lmon) (t : Time) : Lmon :=
  { Lmon.cold with recenters := l.recenters, intervalEnd := t.after Config.measureIntervalUs }

end Sys2Proof.Machine
end

