-- ==== Sys2Proof/Machine/Presence.lean ====
section
/-! DEFINITION. PRC: the requests HANDOVER, RECLAIM and WAKE_ACK as HLI executes them, and PRC's own events (chapter 1). -/

namespace Sys2Proof.Machine

/-- HANDOVER (R5): three tests in order; when all hold, ENTERING with its deadline, and the first test of the wait (R6). -/
def runHandover (body : List Byte) (s : State) : State :=
  match body with
  | _ :: _ => s.respond .badLength []
  | [] =>
    if s.prc.presence != .passive then s.respond .wrongState [0]
    else if !s.factory.good then s.respond .noIdentity [0]
    else if !s.wlog.records.isEmpty then s.respond .pendingWakes [0]
    else
      { s with prc := { s.prc with
          presence := .entering
          pendingResponse := .handover
          handoverDeadline := some (s.inMs s.settings.handoverDeadlineMs) } }.testWait

/-- RECLAIM in a proxy state (R15): LEAVING, WAKE low, timer and pulse stopped, the flush of R87; with nothing in
transmission LEAVING ends at once (R16). -/
def State.beginLeaving (s : State) : State :=
  let s := { s with prc := { s.prc with
      presence := .leaving
      wakeAckTimer := none
      pulseEnd := none
      pendingResponse := .reclaim } }.flushWaiting
  if s.phyTxen then s else s.leavingEnd

/-- RECLAIM (R15). ENTERING and LEAVING cannot be the state when it executes (R15, log 25). -/
def runReclaim (body : List Byte) (s : State) : State :=
  match body with
  | _ :: _ => s.respond .badLength []
  | [] =>
    match s.prc.presence with
    | .passive => s.respond .ok [1, 0]
    | .proxy | .waking | .escalated => s.beginLeaving
    | .entering | .leaving => s.respond .wrongState []

/-- WAKE_ACK (R14). The escalations field carries the count as it stood (R13). ENTERING and LEAVING cannot be the
state when it executes (R14, log 25). -/
def runWakeAck (body : List Byte) (s : State) : State :=
  match body with
  | _ :: _ => s.respond .badLength []
  | [] =>
    match s.prc.presence with
    | .waking | .escalated =>
      let escalations := s.prc.escalations
      { s with prc := { s.prc with
          presence := .proxy
          wakeAckTimer := none
          pulseEnd := none
          escalations := 0 } }.respond .ok [BitVec.ofNat 8 escalations.val]
    | .proxy => s.respond .ok [0]
    | .passive | .entering | .leaving => s.respond .wrongState [0]

/-- HOST_TX_ACTIVE falls: in ENTERING the wait is tested (R6), in other states nothing more (R8). -/
def State.hostTxFalls (s : State) : State := { s with pins := { s.pins with hostTxActive := false } }.testWait

/-- HOST_TX_ACTIVE rises: ENTERING's wait is for its fall again (R6). -/
def State.hostTxRises (s : State) : State := { s with pins := { s.pins with hostTxActive := true } }

/-- The handover deadline expires in ENTERING: the switch is forced (R7). -/
def State.handoverDeadlineExpires (s : State) : State :=
  if s.handoverDeadlineDue then s.switchToPart true else s

/-- The wake-ack timer expires: the first time into ESCALATED with a pulse and a restart (R11, R3), the second time
WAKE_UNANSWERED and the timer stops (R12). -/
def State.wakeAckTimerExpires (s : State) : State :=
  if s.wakeAckTimerDue then
    if s.prc.presence == .waking then
      { s with prc := { s.prc with
          presence := .escalated
          escalations := 1
          pulseEnd := some (s.inMs s.settings.escalationPulseMs)
          wakeAckTimer := some (s.inMs s.settings.wakeAckTimeoutMs) } }
    else
      { s with prc := { s.prc with escalations := 2, wakeAckTimer := none } }.raise .wakeUnanswered
  else s

/-- The escalation pulse's time runs out: ESCALATE falls (R3). -/
def State.pulseEnds (s : State) : State :=
  if s.pulseDue then { s with prc := { s.prc with pulseEnd := none } } else s

end Sys2Proof.Machine
end

