-- ==== Sys2Proof/Machine/HostLink.lean ====
section
/-! DEFINITION. The host link: the frame assembler, the request queue, execution, and the transmit side (chapter 11). -/

namespace Sys2Proof.Machine

/-! ### Execution (R178, R180) -/

/-- The request kinds and what each does (R180, R194). Any other kind is answered UNKNOWN_KIND. -/
def runKind (kind : Byte) (body : List Byte) (s : State) : State :=
  match kind.toNat with
  | 0x01 => runIdentify body s
  | 0x02 => runStatus body s
  | 0x03 => runReset body s
  | 0x04 => runSettingSet body s
  | 0x05 => runSettingGet body s
  | 0x06 => runHandover body s
  | 0x07 => runReclaim body s
  | 0x08 => runWakeAck body s
  | 0x09 => runAnswerSet body s
  | 0x0A => runAnswerClear body s
  | 0x0B => runAnswerGet body s
  | 0x0C => runTemplateSet body s
  | 0x0D => runTemplateGet body s
  | 0x0E => runFilterInsert body s
  | 0x0F => runFilterRemove body s
  | 0x10 => runFilterGet body s
  | 0x11 => runDescOpen body s
  | 0x12 => runDescWrite body s
  | 0x13 => runDescRead body s
  | 0x14 => runDescPublish body s
  | 0x15 => runWakelogTake body s
  | 0x16 => runCaptureGet body s
  | 0x17 => runCountersGet body s
  | 0x18 => runCountersClear body s
  | 0x19 => runEventsGet body s
  | 0x1A => runEventsClear body s
  | 0x1B => runNoticeMask body s
  | 0x1C => runAlarmSet body s
  | 0x1D => runAlarmStop body s
  | 0x1E => runAlarmGet body s
  | 0x1F => runLinkGet body s
  | _ => s.respond .unknownKind []

/-- The two conditions under which HLI begins executing the head request (R178). -/
def State.canExecute (s : State) : Bool :=
  !s.link.executing && s.link.slot.isNone && !s.link.requests.isEmpty

/-- HLI executes the head request (R178). -/
def State.execute (s : State) : State :=
  match s.link.requests with
  | [] => s
  | r :: _ => runKind r.kind r.body { s with link := { s.link with executing := true } }

/-! ### The transmit side (R181, R183) -/

/-- The response in the slot begins transmission and the slot empties (R178, R181). -/
def State.sendResponse (s : State) (m : Message) : State :=
  { s with link := { s.link with slot := none } }.send m

/-- The EVENT_NOTICE frame of a flag's notice: kind 40h, tag 00h, the flag number and the time of its rise (R183). -/
def eventNotice (flag : Fin 16) (rise : Time) : Message := ⟨0x40, 0, BitVec.ofNat 8 flag.val :: bytesBE 6 rise.toNat⟩

/-- The pending notice of highest priority begins transmission and is no longer pending (R183). -/
def State.sendNotice (s : State) (flag : Fin 16) : State :=
  match s.events.notices[flag] with
  | none => s
  | some rise => { s with events := { s.events with notices := s.events.notices.set flag none } }.send (eventNotice flag rise)

/-- A free transmit side chooses: the response, else the notice of highest priority, else nothing (R181). It sends
nothing before STARTED (R192). With `together` a response and a notice that came in one event while the side was free
are taken in an order the manual leaves open: a free value decides (log 11). -/
def State.chooseFrame (s : State) (together : Bool) : State :=
  if s.link.tx.isSome || s.link.startUp == .clearing then s
  else
    match s.link.slot, s.events.firstPending with
    | none, none => s
    | some m, none => s.sendResponse m
    | none, some flag => s.sendNotice flag
    | some m, some flag =>
      if together then
        let (choice, s) := s.drawFree
        if choice % 2 = 0 then s.sendResponse m else s.sendNotice flag
      else s.sendResponse m

/-- One execution where R178 allows one, and the transmit side's choice after it. -/
def State.serve (s : State) : State := if s.canExecute then s.execute.chooseFrame false else s

/-- What HLI does at the end of every event (R178, R181): the transmit side chooses, then requests execute while they
may. Two rounds reach the end: after the second response the slot is taken. -/
def State.settle (s : State) (together : Bool) : State := (s.chooseFrame together).serve.serve

/-- A block's event with what HLI does after it. A response and a notice the event brings are together where the
transmit side was free (R181). -/
def State.afterEvent (s : State) (event : State → State) : State := (event s).settle s.link.tx.isNone

/-! ### The request queue (R177) -/

/-- A valid frame is appended to the request queue, or dropped (R177). -/
def State.offerFrame (s : State) (m : Message) : State :=
  if s.link.requests.length < Config.requestCapacity then
    { s with link := { s.link with requests := s.link.requests ++ [m] } }
  else (s.count .linkDroppedFrames).raise .linkFault

/-- The assembler returns to HUNT (R175). -/
def State.hunt (s : State) : State := { s with link := { s.link with assembler := .hunt } }

/-- One whole valid request frame is taken from the assembler (R175, R177). Before STARTED has been sent its bytes are
discarded (R192, R193). With a frame under assembly, in LENGTH or GATHER, the row drops that frame uncounted: the
model's choice (log 34). -/
def State.takeRequest (s : State) (m : Message) : State :=
  if s.takesBytes then s.afterEvent fun s => s.hunt.offerFrame m else s

/-! ### The frame assembler (R175, R176) -/

/-- A frame discarded for its length byte or its check (R175). -/
def State.discardFrame (s : State) : State := (s.hunt.count .linkBadFrames).raise .linkFault

/-- The gap limit by the setting at this moment, in nanoseconds (R176). -/
def State.gapLimit (s : State) : Nat := 2 ^ s.settings.linkGapExp * Config.nsPerMs

/-- The message of the L + 2 bytes gathered after a length byte L, when their check is good (R174, R175). -/
def gathered (len : Nat) (taken : List Byte) : Option Message :=
  match taken.take len, taken.drop len with
  | kind :: tag :: body, check =>
    let m : Message := ⟨kind, tag, body⟩
    if check = crc16Bytes (BitVec.ofNat 8 len :: kind :: tag :: body) then some m else none
  | _, _ => none

/-- A byte taken by the assembler (R175, R176). -/
def State.takeLinkByte (s : State) (b : Byte) : State :=
  match s.link.assembler with
  | .hunt =>
    if b = 0xA5 then { s with link := { s.link with assembler := .length s.clock s.gapLimit } } else s
  | .length _ limit =>
    if 2 ≤ b.toNat ∧ b.toNat ≤ 250 then
      { s with link := { s.link with assembler := .gather b.toNat [] s.clock limit } }
    else s.discardFrame
  | .gather len taken _ limit =>
    if taken.length + 1 < len + 2 then
      { s with link := { s.link with assembler := .gather len (taken ++ [b]) s.clock limit } }
    else
      match gathered len (taken ++ [b]) with
      | some m => s.hunt.offerFrame m
      | none => s.discardFrame

/-- HOST_LINK_BYTE (R175). Bytes before STARTED has been sent are discarded (R192, R193). -/
def State.hostLinkByte (s : State) (b : Byte) : State :=
  if s.takesBytes then s.afterEvent fun s => s.takeLinkByte b else s

/-- The gap limit passes with no next byte taken (R176). -/
def State.gapLimitPasses (s : State) : State :=
  if s.gapTimeoutDue then (s.hunt.count .linkGapTimeouts).raise .linkFault else s

/-- The frame on HL_TXD ends: the side is free (R181); when it was STARTED, bytes are taken from now on (R192, R193). -/
def State.frameSent (s : State) : State :=
  match s.link.tx with
  | none => s
  | some _ =>
    { s with link := { s.link with
        tx := none
        startUp := match s.link.startUp with
          | .started => .running
          | .clearing => .clearing
          | .running => .running } }

end Sys2Proof.Machine
end

