-- ==== Sys2Proof/Machine/RequestCommands.lean ====
section
/-! DEFINITION. The request commands: each is one whole valid frame of its kind taken from the assembler (R174, R177,
log 7). What a request does when HLI executes it is `run<Request>` at its owner (`runKind`). -/

namespace Sys2Proof.Machine

/-- What a command answers: every command of this block has a next state. -/
abbrev Result := Host.Outcome State Fault Refusal

/-- IDENTIFY (R190). -/
def execIdentify (tag : Byte) (body : List Byte) (s : State) : Result := .next (s.takeRequest ⟨0x01, tag, body⟩)

/-- STATUS (R191). -/
def execStatus (tag : Byte) (body : List Byte) (s : State) : Result := .next (s.takeRequest ⟨0x02, tag, body⟩)

/-- RESET with the TABLES member and `others` (R189, R57, R79). -/
def execResetTables (tag others : Byte) (s : State) : Result := .next (s.takeRequest ⟨0x03, tag, [others ||| 0x01]⟩)

/-- RESET with the LOG member and `others` (R189, R105). -/
def execResetLog (tag others : Byte) (s : State) : Result := .next (s.takeRequest ⟨0x03, tag, [others ||| 0x02]⟩)

/-- RESET with the COUNTERS member and `others` (R189, R41). -/
def execResetCounters (tag others : Byte) (s : State) : Result := .next (s.takeRequest ⟨0x03, tag, [others ||| 0x04]⟩)

/-- RESET with the DESCRIPTOR member and `others` (R189, R128). -/
def execResetDescriptor (tag others : Byte) (s : State) : Result := .next (s.takeRequest ⟨0x03, tag, [others ||| 0x08]⟩)

/-- RESET with the SETTINGS member and `others` (R189, R188). -/
def execResetSettings (tag others : Byte) (s : State) : Result := .next (s.takeRequest ⟨0x03, tag, [others ||| 0x10]⟩)

/-- RESET with the ALARMS member and `others` (R189, R171). -/
def execResetAlarms (tag others : Byte) (s : State) : Result := .next (s.takeRequest ⟨0x03, tag, [others ||| 0x20]⟩)

/-- SETTING_SET (R187). -/
def execSettingSet (tag : Byte) (body : List Byte) (s : State) : Result := .next (s.takeRequest ⟨0x04, tag, body⟩)

/-- SETTING_GET (R187). -/
def execSettingGet (tag : Byte) (body : List Byte) (s : State) : Result := .next (s.takeRequest ⟨0x05, tag, body⟩)

/-- HANDOVER (R5). -/
def execHandover (tag : Byte) (body : List Byte) (s : State) : Result := .next (s.takeRequest ⟨0x06, tag, body⟩)

/-- RECLAIM (R15). -/
def execReclaim (tag : Byte) (body : List Byte) (s : State) : Result := .next (s.takeRequest ⟨0x07, tag, body⟩)

/-- WAKE_ACK (R14). -/
def execWakeAck (tag : Byte) (body : List Byte) (s : State) : Result := .next (s.takeRequest ⟨0x08, tag, body⟩)

/-- ANSWER_SET (R75). -/
def execAnswerSet (tag : Byte) (body : List Byte) (s : State) : Result := .next (s.takeRequest ⟨0x09, tag, body⟩)

/-- ANSWER_CLEAR (R76). -/
def execAnswerClear (tag : Byte) (body : List Byte) (s : State) : Result := .next (s.takeRequest ⟨0x0A, tag, body⟩)

/-- ANSWER_GET (R77). -/
def execAnswerGet (tag : Byte) (body : List Byte) (s : State) : Result := .next (s.takeRequest ⟨0x0B, tag, body⟩)

/-- TEMPLATE_SET (R72). -/
def execTemplateSet (tag : Byte) (body : List Byte) (s : State) : Result := .next (s.takeRequest ⟨0x0C, tag, body⟩)

/-- TEMPLATE_SET with a body length of 0; `ops` is the operation count and the operations (R73). -/
def execTemplateSetEmptyBody (tag id : Byte) (ops : List Byte) (s : State) : Result :=
  .next (s.takeRequest ⟨0x0C, tag, id :: 0 :: ops⟩)

/-- TEMPLATE_GET (R74). -/
def execTemplateGet (tag : Byte) (body : List Byte) (s : State) : Result := .next (s.takeRequest ⟨0x0D, tag, body⟩)

/-- FILTER_INSERT (R47). -/
def execFilterInsert (tag : Byte) (body : List Byte) (s : State) : Result := .next (s.takeRequest ⟨0x0E, tag, body⟩)

/-- FILTER_REMOVE (R48). -/
def execFilterRemove (tag : Byte) (body : List Byte) (s : State) : Result := .next (s.takeRequest ⟨0x0F, tag, body⟩)

/-- FILTER_GET (R49). -/
def execFilterGet (tag : Byte) (body : List Byte) (s : State) : Result := .next (s.takeRequest ⟨0x10, tag, body⟩)

/-- DESC_OPEN (R112, R113). -/
def execDescOpen (tag : Byte) (body : List Byte) (s : State) : Result := .next (s.takeRequest ⟨0x11, tag, body⟩)

/-- DESC_WRITE (R114). -/
def execDescWrite (tag : Byte) (body : List Byte) (s : State) : Result := .next (s.takeRequest ⟨0x12, tag, body⟩)

/-- DESC_READ (R115). -/
def execDescRead (tag : Byte) (body : List Byte) (s : State) : Result := .next (s.takeRequest ⟨0x13, tag, body⟩)

/-- DESC_PUBLISH (R116). -/
def execDescPublish (tag : Byte) (body : List Byte) (s : State) : Result := .next (s.takeRequest ⟨0x14, tag, body⟩)

/-- WAKELOG_TAKE (R102). -/
def execWakelogTake (tag : Byte) (body : List Byte) (s : State) : Result := .next (s.takeRequest ⟨0x15, tag, body⟩)

/-- CAPTURE_GET (R103). -/
def execCaptureGet (tag : Byte) (body : List Byte) (s : State) : Result := .next (s.takeRequest ⟨0x16, tag, body⟩)

/-- COUNTERS_GET (R39). -/
def execCountersGet (tag : Byte) (body : List Byte) (s : State) : Result := .next (s.takeRequest ⟨0x17, tag, body⟩)

/-- COUNTERS_CLEAR (R40). -/
def execCountersClear (tag : Byte) (body : List Byte) (s : State) : Result := .next (s.takeRequest ⟨0x18, tag, body⟩)

/-- EVENTS_GET (R184). -/
def execEventsGet (tag : Byte) (body : List Byte) (s : State) : Result := .next (s.takeRequest ⟨0x19, tag, body⟩)

/-- EVENTS_CLEAR (R184). -/
def execEventsClear (tag : Byte) (body : List Byte) (s : State) : Result := .next (s.takeRequest ⟨0x1A, tag, body⟩)

/-- NOTICE_MASK (R185). -/
def execNoticeMask (tag : Byte) (body : List Byte) (s : State) : Result := .next (s.takeRequest ⟨0x1B, tag, body⟩)

/-- ALARM_SET (R167). -/
def execAlarmSet (tag : Byte) (body : List Byte) (s : State) : Result := .next (s.takeRequest ⟨0x1C, tag, body⟩)

/-- ALARM_STOP (R168). -/
def execAlarmStop (tag : Byte) (body : List Byte) (s : State) : Result := .next (s.takeRequest ⟨0x1D, tag, body⟩)

/-- ALARM_GET (R169). -/
def execAlarmGet (tag : Byte) (body : List Byte) (s : State) : Result := .next (s.takeRequest ⟨0x1E, tag, body⟩)

/-- LINK_GET (R147). -/
def execLinkGet (tag : Byte) (body : List Byte) (s : State) : Result := .next (s.takeRequest ⟨0x1F, tag, body⟩)

/-- A frame of any other kind (R180). -/
def execUnknownKind (kind tag : Byte) (body : List Byte) (s : State) : Result := .next (s.takeRequest ⟨kind, tag, body⟩)

end Sys2Proof.Machine
end

