-- ==== Sys2Proof/Machine/ShedUnit.lean ====
section
/-! DEFINITION. SHED: the evaluation at a window's end, and the supply-switch reset (chapter 9). -/

namespace Sys2Proof.Machine

/-- A tier triggers when enabled with its source's count at or above its threshold (R155). -/
def Tier.triggers (t : Tier) (counts : Vector Nat 4) : Bool := t.enabled && t.threshold ≤ counts[t.source]

/-- The level the tiers call for: the lowest-numbered tier that triggers decides; none gives 0 (R155). -/
def evaluateTiers (tiers : Vector Tier 4) (counts : Vector Nat 4) : Fin 4 :=
  match tiers.toList.find? fun t => t.triggers counts with
  | some t => t.level
  | none => 0

/-- A window that begins at time base value `t` with the setting's length at this moment and no load counted (R152). -/
def State.freshWindow (s : State) (t : Time) (level : Fin 4) : Shed :=
  { windowStart := t, windowMs := s.settings.shedWindowMs, counts := Vector.replicate 4 0, level := level }

/-- The window's end: the tiers are evaluated, SHED_CHANGED is raised on a change, the next window begins (R155, R156). -/
def State.windowEnds (s : State) : State :=
  if s.windowDue then
    let level := evaluateTiers s.settings.tiers s.shed.counts
    let next := { s with shed := s.freshWindow s.time level }
    if level = s.shed.level then next else next.raise .shedChanged
  else s

end Sys2Proof.Machine
end

