-- ==== Sys2Proof/Machine/Resets.lean ====
section
/-! DEFINITION. The two hardware resets as a whole. -/

namespace Sys2Proof.Machine

/-! ### Cold reset (R192) -/

/-- RESET_N low or power-up: every block as a cold reset leaves it (R19, R30, R36, R41, R57, R79, R92, R104, R127, R148,
R159, R163, R171, R186, R188, R190, R192), HL_RATE sampled (R173). The input levels, the one-time memory, the free
values read so far and the commands not yet taken are not the part's to reset. -/
def State.coldReset (s : State) (fast : Bool) : State := State.coldStart s.pins s.otp fast s.free s.pending

/-! ### Supply-switch reset (R21, R22) -/

/-- The time `us` microseconds later with nothing else happening: the time base and the part's own clock run on (R163). -/
def State.elapse (s : State) (us : Nat) : State :=
  { s with time := s.time.after us, clock := s.clock + us * Config.nsPerUs }

/-- The presence state after a supply-switch reset (R21). -/
def Presence.afterSupplySwitch : Presence → Presence
  | .passive | .entering | .leaving => .passive
  | .proxy => .proxy
  | .waking | .escalated => .waking

/-- PRC after a supply-switch reset; `s` stands at its end (R21). -/
def State.prcAfterSupplySwitch (s : State) : Prc :=
  let presence := s.prc.presence.afterSupplySwitch
  { presence := presence
    handoverDeadline := none
    wakeAckTimer := if presence = .waking then some (s.inMs s.settings.wakeAckTimeoutMs) else none
    escalations := 0
    pulseEnd := none
    pendingResponse := .none }

/-- HLI's link side after a supply-switch reset, before STARTED is sent (R193), with HL_RATE sampled (R173). -/
def HostLink.afterSupplySwitch (fast : Bool) : HostLink := { HostLink.cold fast with startUp := .started }

/-- Every block settled at the end of a supply-switch reset that began at time base value `start` and lasted `us`
microseconds; `s` stands at its end (R21, R30, R36, R92, R106, R129, R149, R160, R163, R172, R186, R193). -/
def State.settleBlocks (s : State) (start : Time) (us : Nat) (fast : Bool) : State :=
  { s with
    prc := s.prcAfterSupplySwitch
    rxp := .idle
    pool := poolCold
    txq := Txq.cold
    wlog := s.wlog.afterSupplySwitch
    desc := s.descAfterSupplySwitch start
    lmon := s.lmon.afterSupplySwitch s.time
    shed := s.freshWindow s.time 0
    alarms := s.alarms.map fun a => a.acrossReset start us
    link := HostLink.afterSupplySwitch fast
    events := { s.events with notices := Vector.replicate 16 none }
    free := s.free + 1 }

/-- What is announced at the end of a supply-switch reset: its own wake cause, and the alarm expiries within it. -/
inductive ResetEndEvent where
  | supplySwitch
  | expiry (timer : Fin 4)
deriving DecidableEq, Repr

/-- The announcements due at the end of a reset that began at `start` and lasted `us`: the SUPPLY_SWITCH cause when
wake_on_supply_switch is set (R22; outside the proxy states WLOG drops it, R106), and one expiry of each timer with one
in the reset (R172). -/
def State.resetEndEvents (s : State) (start : Time) (us : Nat) : List ResetEndEvent :=
  (if s.settings.wakeOnSupplySwitch = 1 then [.supplySwitch] else [])
    ++ ((List.finRange 4).filter fun n => s.alarms[n].expiresWithin start us).map .expiry

/-- One announcement (R22, R172). -/
def State.announce (s : State) : ResetEndEvent → State
  | .supplySwitch => s.takeCause ⟨.supplySwitch, none, false, none⟩
  | .expiry n => s.announceExpiry n

/-- The announcements in any order: a free value picks the next (R101, R172, log 21). -/
def State.announceAll : Nat → State → List ResetEndEvent → State
  | 0, s, _ => s
  | _ + 1, s, [] => s
  | _ + 1, s, [e] => s.announce e
  | n + 1, s, e :: f :: rest =>
    let events := e :: f :: rest
    let (choice, s) := s.drawFree
    let k := choice % events.length
    announceAll n (s.announce (events.getD k e)) (events.eraseIdx k)

/-- SUPPLY_SWITCH (R21): the time runs on for the length of the reset, every block is settled, STARTED goes out (R193),
and the announcements are taken. -/
def State.supplySwitchReset (s : State) (us : Nat) (fast : Bool) : State :=
  let events := s.resetEndEvents s.time us
  let settled := ((s.elapse us).settleBlocks s.time us fast).sendStarted 1
  settled.announceAll events.length events

end Sys2Proof.Machine
end

