-- ==== Sys2Proof/Machine/Sideband.lean ====
section
/-! DEFINITION. The sideband port: the conditions and bytes of the I2C bus as the part takes them (R120..R126). -/

namespace Sys2Proof.Machine

/-- SB_SDA falls while SB_SCL is high: a start condition with no transaction of the part in progress, else a repeated
start; an address byte follows (R120). The start time and stall time of a transaction are of this moment (R121). -/
def State.busStarts (s : State) : State :=
  match s.desc.transaction with
  | none =>
    { s with desc := { s.desc with bus := .afterStart s.time s.settings.sidebandStallMs, sda := .released } }
  | some _ => { s with desc := { s.desc with bus := .afterRepeatedStart, sda := .released } }

/-- Whom an address byte names: 3Ah the descriptor, 3Bh the page select, else another device (R120). -/
def sbTarget (b : Byte) : SbTarget :=
  if b.toNat / 2 = 0x3A then .descriptor else if b.toNat / 2 = 0x3B then .pageSelect else .other

/-- The direction bit: 1 when the target sends (R120). -/
def sbReading (b : Byte) : Bool := b.toNat % 2 == 1

/-- An address byte not acknowledged: one SIDEBAND_REFUSALS, and the bus is left until the next start (R121). -/
def State.refuseAddress (s : State) : State :=
  { s with desc := { s.desc with bus := .nothing, sda := .nack } }.count .sidebandRefusals

/-- An address byte (R121). Another device's address is not acknowledged and counts nothing; after a repeated start it
begins a segment through which the part stays silent. -/
def State.takeAddress (s : State) (b : Byte) : State :=
  match s.desc.bus with
  | .nothing => s
  | .afterStart start stall =>
    match sbTarget b with
    | .other => { s with desc := { s.desc with bus := .nothing, sda := .nack } }
    | target =>
      if s.desc.state == .published && s.desc.deferred == .none then
        { s with desc := { s.desc with
            bus := .nothing
            transaction := some ⟨start, stall, target, sbReading b, 0, false, false⟩
            sda := .ack } }
      else s.refuseAddress
  | .afterRepeatedStart =>
    match s.desc.transaction with
    | none => { s with desc := { s.desc with bus := .nothing } }
    | some t =>
      let segment := { t with target := sbTarget b, reading := sbReading b, dataBytes := 0, released := false }
      if sbTarget b == .other then
        { s with desc := { s.desc with bus := .nothing, transaction := some segment, sda := .nack } }
      else if s.desc.state == .published then
        { s with desc := { s.desc with bus := .nothing, transaction := some segment, sda := .ack } }
      else s.refuseAddress

/-- The transaction, when its current segment is of this target and direction and no address byte is awaited. -/
def Desc.segment (d : Desc) (target : SbTarget) (reading : Bool) : Option Transaction :=
  match d.transaction with
  | some t => if d.bus == .nothing && t.target == target && t.reading == reading then some t else none
  | none => none

/-- A data byte written to 3Bh: the first of the segment sets the page select if it is 00h..03h; any other is not
acknowledged (R122). -/
def State.writePage (s : State) (b : Byte) : State :=
  match s.desc.segment .pageSelect false with
  | none => s
  | some t =>
    let next := some { t with dataBytes := t.dataBytes + 1 }
    if h : t.dataBytes = 0 ∧ b.toNat < 4 then
      { s with desc := { s.desc with page := ⟨b.toNat, h.2⟩, transaction := next, sda := .ack } }
    else { s with desc := { s.desc with transaction := next, sda := .nack } }

/-- A data byte written to 3Ah: the first of the segment sets the read offset (R123). -/
def State.writeOffset (s : State) (b : Byte) : State :=
  match s.desc.segment .descriptor false with
  | none => s
  | some t =>
    let next := some { t with dataBytes := t.dataBytes + 1 }
    if t.dataBytes = 0 then
      { s with desc := { s.desc with readOffset := b, transaction := next, sda := .ack } }
    else { s with desc := { s.desc with transaction := next, sda := .nack } }

/-- The transaction after the part has sent a data byte that the reader acknowledged or not (R122, R123). -/
def Transaction.afterSending (t : Transaction) (ack : Bool) : Transaction :=
  { t with dataBytes := t.dataBytes + 1, sent := true, released := !ack }

/-- A byte of a read segment at 3Bh: the page select, until the reader does not acknowledge (R122). -/
def State.readPage (s : State) (ack : Bool) : State :=
  match s.desc.segment .pageSelect true with
  | none => s
  | some t =>
    if t.released then { s with desc := { s.desc with sda := .released } }
    else
      { s with desc := { s.desc with
          transaction := some (t.afterSending ack), sda := .data (BitVec.ofNat 8 s.desc.page.val) } }

/-- A byte of a read segment at 3Ah: the byte at (page select, read offset), and the offset moves on within the
page, until the reader does not acknowledge (R123). -/
def State.readDescriptor (s : State) (ack : Bool) : State :=
  match s.desc.segment .descriptor true with
  | none => s
  | some t =>
    if t.released then { s with desc := { s.desc with sda := .released } }
    else
      { s with desc := { s.desc with
          transaction := some (t.afterSending ack)
          readOffset := s.desc.readOffset + 1
          sda := .data s.desc.sidebandByte } }

/-- The transaction is over: SB_SDA is released, a deferred request is taken (R124, R125). An address byte awaited after
a repeated start is awaited no more: until the next start it is neither acknowledged nor counted. That is the model's
choice for a stall timeout before the byte, which R121 and R125 leave open (log 33). -/
def State.endTransaction (s : State) : State :=
  { s with desc := { s.desc with bus := .nothing, transaction := none, sda := .released } }.takeDeferred

/-- A stop condition completes the transaction in progress, counting SIDEBAND_READS if it sent data; with none it has
no effect on DESC (R124). -/
def State.busStops (s : State) : State :=
  match s.desc.transaction with
  | none => s
  | some t => (if t.sent then s.count .sidebandReads else s).endTransaction

/-- The stall timeout ends the transaction with no count (R125). -/
def State.sidebandStalls (s : State) : State := if s.stallDue then s.endTransaction else s

end Sys2Proof.Machine
end

