-- ==== Sys2Proof/Machine/Transmission.lean ====
section
/-! DEFINITION. TXQ: the start and the end of a transmission and the gap (chapter 5). -/

namespace Sys2Proof.Machine

/-- A reply padded to 60 bytes with 00h (R83). -/
def padded (reply : List Byte) : List Byte := reply ++ List.replicate (60 - reply.length) 0

/-- What a transmission puts on the line: preamble, delimiter, reply, padding, check sequence (R83). -/
def lineBytes (reply : List Byte) : List Byte :=
  List.replicate 7 0x55 ++ [0xD5] ++ padded reply ++ checkSequence (padded reply)

/-- The transmitter starts the head of the queue when the start condition holds; the transmission lasts one byte time for
each byte on the line (R82, R83). -/
def State.startsTransmission (s : State) : State :=
  if s.startCondition then
    match s.txq.queue, s.lmon.link with
    | r :: _, .up c =>
      let line := lineBytes (s.pool[r.buf].bytes.take r.len)
      { s with txq := { s.txq with transmitter := .sending line (s.clock + line.length * c.byteNs) } }
    | _, _ => s
  else s

/-- The end of a transmission: the head leaves the queue, its buffer is FREE, ANSWERS_SENT and source 3 are counted,
the gap begins (R85). -/
def State.finishHead (s : State) : State :=
  let s := match s.txq.queue with
    | [] => s
    | r :: rest => { s with txq := { s.txq with queue := rest } }.freeBuffer r.buf
  let s := (s.count .answersSent).report 3
  { s with txq := { s.txq with transmitter := s.gapFromNow } }

/-- The last check-sequence byte has been sent (R85); in LEAVING the report ends LEAVING (R16). -/
def State.endsTransmission (s : State) : State :=
  match s.txq.transmitter with
  | .sending _ _ =>
    let s := s.finishHead
    if s.prc.presence == .leaving then s.leavingEnd else s
  | .idle | .gap _ => s

/-- The gap end is reached: the transmitter becomes IDLE and its start condition is tested by TRANSMISSION_START (R84). -/
def State.endsGap (s : State) : State :=
  if s.gapDue then { s with txq := { s.txq with transmitter := .idle } } else s

end Sys2Proof.Machine
end

