-- ==== Sys2Proof/Machine/EventCommands.lean ====
section
/-! DEFINITION. The event commands: what reaches the block's pins, and what its own activities report. -/

namespace Sys2Proof.Machine

/-- HOST_LINK_BYTE (R175). -/
def execHostLinkByte (b : Byte) (s : State) : Result := .next (s.hostLinkByte b)

/-- FRAMING_ERROR (R173: no byte is taken, and the gap limit of R176 goes on running). -/
def execFramingError (s : State) : Result := .next s

/-- GAP_TIMEOUT (R176). -/
def execGapTimeout (s : State) : Result := .next (s.afterEvent State.gapLimitPasses)

/-- HOST_LINK_FRAME_SENT (R181). -/
def execHostLinkFrameSent (s : State) : Result := .next (s.frameSent.settle false)

/-- COLD_RESET (R192). -/
def execColdReset (fast : Bool) (s : State) : Result := .next (s.coldReset fast)

/-- SUPPLY_SWITCH_RESET (R21). -/
def execSupplySwitchReset (us : Nat) (fast : Bool) (s : State) : Result := .next (s.supplySwitchReset us fast)

/-- HOST_TX_ACTIVE_FALL (R6). -/
def execHostTxActiveFall (s : State) : Result := .next (s.afterEvent State.hostTxFalls)

/-- HOST_TX_ACTIVE_RISE (R6). -/
def execHostTxActiveRise (s : State) : Result := .next (s.hostTxRises)

/-- HANDOVER_DEADLINE_EXPIRY (R7). -/
def execHandoverDeadlineExpiry (s : State) : Result := .next (s.afterEvent State.handoverDeadlineExpires)

/-- WAKE_ACK_TIMER_EXPIRY (R11, R12). -/
def execWakeAckTimerExpiry (s : State) : Result := .next (s.afterEvent State.wakeAckTimerExpires)

/-- ESCALATION_PULSE_END (R3). -/
def execEscalationPulseEnd (s : State) : Result := .next (s.pulseEnds)

/-- FRAME_START (R24). -/
def execFrameStart (b : Byte) (s : State) : Result := .next (s.afterEvent fun s => s.startFrame b)

/-- PHY_RXER (R25). -/
def execPhyRxer (s : State) : Result := .next (s.rxError)

/-- FRAME_END (R26, R27, R28). -/
def execFrameEnd (partialByte : Bool) (s : State) : Result := .next (s.afterEvent fun s => s.endFrame partialByte)

/-- TRANSMISSION_START (R82, R83). -/
def execTransmissionStart (s : State) : Result := .next (s.startsTransmission)

/-- TRANSMISSION_END (R85). -/
def execTransmissionEnd (s : State) : Result := .next (s.afterEvent State.endsTransmission)

/-- GAP_END (R84). -/
def execGapEnd (s : State) : Result := .next (s.endsGap)

/-- CHECKSUM_PASS_END (R117). -/
def execChecksumPassEnd (s : State) : Result := .next (s.afterEvent State.checksumPassEnds)

/-- HOLD_DOWN_END (R118). -/
def execHoldDownEnd (s : State) : Result := .next (s.holdDownEnds)

/-- CLEARING_PASS_END (R127). -/
def execClearingPassEnd (s : State) : Result := .next (s.afterEvent State.clearingPassEnds)

/-- VERIFY_PASS_END (R130). -/
def execVerifyPassEnd (s : State) : Result := .next (s.afterEvent State.verifyPassEnds)

/-- START_CONDITION (R120). -/
def execStartCondition (s : State) : Result := .next (s.busStarts)

/-- REPEATED_START_CONDITION (R120: the same fall of SB_SDA; the transaction in progress tells which it is, log 23). -/
def execRepeatedStartCondition (s : State) : Result := .next (s.busStarts)

/-- ADDRESS_BYTE (R121). -/
def execAddressByte (b : Byte) (s : State) : Result := .next (s.takeAddress b)

/-- PAGE_SELECT_WRITE (R122). -/
def execPageSelectWrite (b : Byte) (s : State) : Result := .next (s.writePage b)

/-- PAGE_SELECT_READ (R122). -/
def execPageSelectRead (ack : Bool) (s : State) : Result := .next (s.readPage ack)

/-- READ_OFFSET_WRITE (R123). -/
def execReadOffsetWrite (b : Byte) (s : State) : Result := .next (s.writeOffset b)

/-- DESCRIPTOR_READ_BYTE (R123). -/
def execDescriptorReadByte (ack : Bool) (s : State) : Result := .next (s.readDescriptor ack)

/-- STOP_CONDITION (R124). -/
def execStopCondition (s : State) : Result := .next (s.afterEvent State.busStops)

/-- STALL_TIMEOUT (R125). -/
def execStallTimeout (s : State) : Result := .next (s.afterEvent State.sidebandStalls)

/-- PHY_LINK_RISE (R135). -/
def execPhyLinkRise (s : State) : Result := .next (s.phyLinkRises)

/-- PHY_LINK_FALL (R138, R139). -/
def execPhyLinkFall (s : State) : Result := .next (s.afterEvent State.phyLinkFalls)

/-- MEASUREMENT (R133). -/
def execMeasurement (cycles : Nat) (s : State) : Result := .next (s.afterEvent fun s => s.takeMeasurement cycles)

/-- SETTLE_END (R137). -/
def execSettleEnd (s : State) : Result := .next (s.afterEvent State.settles)

/-- RECENTER (R143). -/
def execRecenter (s : State) : Result := .next (s.afterEvent State.recenters)

/-- QUARANTINE_END (R145). -/
def execQuarantineEnd (s : State) : Result := .next (s.quarantineEnds)

/-- WINDOW_END (R152, R155, R156). -/
def execWindowEnd (s : State) : Result := .next (s.afterEvent State.windowEnds)

/-- ALARM_EXPIRY (R166). -/
def execAlarmExpiry (timer : Fin 4) (s : State) : Result := .next (s.afterEvent fun s => s.alarmExpires timer)

/-- FRAME_BYTE (R25). -/
def execFrameByte (b : Byte) (s : State) : Result := .next (s.takeFrameByte b)

end Sys2Proof.Machine
end

