-- ==== Sys2Proof/Machine/Dispatch.lean ====
section
/-! DEFINITION. One arm per command. -/

namespace Sys2Proof.Machine

def exec (i : Instr) (s : State) : Host.Outcome State Fault Refusal :=
  match i with
  | .identify tag body => Sys2Proof.Machine.execIdentify tag body s
  | .status tag body => Sys2Proof.Machine.execStatus tag body s
  | .resetTables tag others => Sys2Proof.Machine.execResetTables tag others s
  | .resetLog tag others => Sys2Proof.Machine.execResetLog tag others s
  | .resetCounters tag others => Sys2Proof.Machine.execResetCounters tag others s
  | .resetDescriptor tag others => Sys2Proof.Machine.execResetDescriptor tag others s
  | .resetSettings tag others => Sys2Proof.Machine.execResetSettings tag others s
  | .resetAlarms tag others => Sys2Proof.Machine.execResetAlarms tag others s
  | .settingSet tag body => Sys2Proof.Machine.execSettingSet tag body s
  | .settingGet tag body => Sys2Proof.Machine.execSettingGet tag body s
  | .handover tag body => Sys2Proof.Machine.execHandover tag body s
  | .reclaim tag body => Sys2Proof.Machine.execReclaim tag body s
  | .wakeAck tag body => Sys2Proof.Machine.execWakeAck tag body s
  | .answerSet tag body => Sys2Proof.Machine.execAnswerSet tag body s
  | .answerClear tag body => Sys2Proof.Machine.execAnswerClear tag body s
  | .answerGet tag body => Sys2Proof.Machine.execAnswerGet tag body s
  | .templateSet tag body => Sys2Proof.Machine.execTemplateSet tag body s
  | .templateSetEmptyBody tag id ops => Sys2Proof.Machine.execTemplateSetEmptyBody tag id ops s
  | .templateGet tag body => Sys2Proof.Machine.execTemplateGet tag body s
  | .filterInsert tag body => Sys2Proof.Machine.execFilterInsert tag body s
  | .filterRemove tag body => Sys2Proof.Machine.execFilterRemove tag body s
  | .filterGet tag body => Sys2Proof.Machine.execFilterGet tag body s
  | .descOpen tag body => Sys2Proof.Machine.execDescOpen tag body s
  | .descWrite tag body => Sys2Proof.Machine.execDescWrite tag body s
  | .descRead tag body => Sys2Proof.Machine.execDescRead tag body s
  | .descPublish tag body => Sys2Proof.Machine.execDescPublish tag body s
  | .wakelogTake tag body => Sys2Proof.Machine.execWakelogTake tag body s
  | .captureGet tag body => Sys2Proof.Machine.execCaptureGet tag body s
  | .countersGet tag body => Sys2Proof.Machine.execCountersGet tag body s
  | .countersClear tag body => Sys2Proof.Machine.execCountersClear tag body s
  | .eventsGet tag body => Sys2Proof.Machine.execEventsGet tag body s
  | .eventsClear tag body => Sys2Proof.Machine.execEventsClear tag body s
  | .noticeMask tag body => Sys2Proof.Machine.execNoticeMask tag body s
  | .alarmSet tag body => Sys2Proof.Machine.execAlarmSet tag body s
  | .alarmStop tag body => Sys2Proof.Machine.execAlarmStop tag body s
  | .alarmGet tag body => Sys2Proof.Machine.execAlarmGet tag body s
  | .linkGet tag body => Sys2Proof.Machine.execLinkGet tag body s
  | .unknownKind kind tag body => Sys2Proof.Machine.execUnknownKind kind tag body s
  | .hostLinkByte b => Sys2Proof.Machine.execHostLinkByte b s
  | .framingError => Sys2Proof.Machine.execFramingError s
  | .gapTimeout => Sys2Proof.Machine.execGapTimeout s
  | .hostLinkFrameSent => Sys2Proof.Machine.execHostLinkFrameSent s
  | .coldReset fast => Sys2Proof.Machine.execColdReset fast s
  | .supplySwitchReset us fast => Sys2Proof.Machine.execSupplySwitchReset us fast s
  | .hostTxActiveFall => Sys2Proof.Machine.execHostTxActiveFall s
  | .hostTxActiveRise => Sys2Proof.Machine.execHostTxActiveRise s
  | .handoverDeadlineExpiry => Sys2Proof.Machine.execHandoverDeadlineExpiry s
  | .wakeAckTimerExpiry => Sys2Proof.Machine.execWakeAckTimerExpiry s
  | .escalationPulseEnd => Sys2Proof.Machine.execEscalationPulseEnd s
  | .frameStart b => Sys2Proof.Machine.execFrameStart b s
  | .phyRxer => Sys2Proof.Machine.execPhyRxer s
  | .frameEnd partialByte => Sys2Proof.Machine.execFrameEnd partialByte s
  | .transmissionStart => Sys2Proof.Machine.execTransmissionStart s
  | .transmissionEnd => Sys2Proof.Machine.execTransmissionEnd s
  | .gapEnd => Sys2Proof.Machine.execGapEnd s
  | .checksumPassEnd => Sys2Proof.Machine.execChecksumPassEnd s
  | .holdDownEnd => Sys2Proof.Machine.execHoldDownEnd s
  | .clearingPassEnd => Sys2Proof.Machine.execClearingPassEnd s
  | .verifyPassEnd => Sys2Proof.Machine.execVerifyPassEnd s
  | .startCondition => Sys2Proof.Machine.execStartCondition s
  | .repeatedStartCondition => Sys2Proof.Machine.execRepeatedStartCondition s
  | .addressByte b => Sys2Proof.Machine.execAddressByte b s
  | .pageSelectWrite b => Sys2Proof.Machine.execPageSelectWrite b s
  | .pageSelectRead ack => Sys2Proof.Machine.execPageSelectRead ack s
  | .readOffsetWrite b => Sys2Proof.Machine.execReadOffsetWrite b s
  | .descriptorReadByte ack => Sys2Proof.Machine.execDescriptorReadByte ack s
  | .stopCondition => Sys2Proof.Machine.execStopCondition s
  | .stallTimeout => Sys2Proof.Machine.execStallTimeout s
  | .phyLinkRise => Sys2Proof.Machine.execPhyLinkRise s
  | .phyLinkFall => Sys2Proof.Machine.execPhyLinkFall s
  | .measurement cycles => Sys2Proof.Machine.execMeasurement cycles s
  | .settleEnd => Sys2Proof.Machine.execSettleEnd s
  | .recenter => Sys2Proof.Machine.execRecenter s
  | .quarantineEnd => Sys2Proof.Machine.execQuarantineEnd s
  | .windowEnd => Sys2Proof.Machine.execWindowEnd s
  | .alarmExpiry timer => Sys2Proof.Machine.execAlarmExpiry timer s
  | .frameByte b => Sys2Proof.Machine.execFrameByte b s

end Sys2Proof.Machine
end

