-- ==== Sys2Proof/Machine/Step.lean ====
section
/-! DEFINITION. One step of the block: the command at the front of its queue, or, with none, the next thing its own
clock brings. -/

namespace Sys2Proof.Machine

/-- With no command waiting: one event that has come due, or else one microsecond passes (log 1). -/
def idleStep (s : State) : Host.Outcome State Fault Refusal :=
  match s.nextDue with
  | some c => exec c s.afterChoice
  | none => .next s.tick

/-- One step: the command at the front of the queue is executed on the state with the rest of the queue. -/
def step (s : State) : Host.Outcome State Fault Refusal :=
  match s.pending with
  | c :: rest => exec c { s with pending := rest }
  | [] => idleStep s

/-- The state with the command a word spells put at the front of the queue; no word spells one (Decode.lean). -/
def State.withFetchWord (s : State) (nbits w : Nat) : State :=
  match decodeTableWord nbits w with
  | some c => { s with pending := c :: s.pending }
  | none => s

end Sys2Proof.Machine
end

