-- ==== Sys2Proof/WellFormed.lean ====
section
/-! DEFINITION. Which commands a sender can send: what a host link frame can carry (R174) and which row a frame
belongs to. `exec` answers ill-formed commands too, by the same rules (log 25). -/

namespace Sys2Proof

/-- A frame's body holds at most 248 bytes (R174). -/
def bodyFits (body : List Byte) : Bool := body.length ≤ 248

/-- The 31 request kinds are 01h..1Fh (R194). -/
def isRequestKind (kind : Byte) : Bool := 1 ≤ kind.toNat && kind.toNat ≤ 31

/-- A command that a sender can send and that belongs to its own row. -/
def Instr.wellFormed : Instr → Bool
  | .identify _ body | .status _ body | .settingSet _ body | .settingGet _ body | .handover _ body
  | .reclaim _ body | .wakeAck _ body | .answerSet _ body | .answerClear _ body | .answerGet _ body
  | .templateGet _ body | .filterInsert _ body | .filterRemove _ body | .filterGet _ body
  | .descOpen _ body | .descWrite _ body | .descRead _ body | .descPublish _ body
  | .wakelogTake _ body | .captureGet _ body | .countersGet _ body | .countersClear _ body
  | .eventsGet _ body | .eventsClear _ body | .noticeMask _ body | .alarmSet _ body
  | .alarmStop _ body | .alarmGet _ body | .linkGet _ body => bodyFits body
  -- a TEMPLATE_SET whose body length is 0 is the row TEMPLATE_SET_EMPTY_BODY (R72, R73)
  | .templateSet _ body => bodyFits body && body[1]? != some 0
  | .templateSetEmptyBody _ _ ops => ops.length ≤ 246
  -- a kind that is one of the 31 is that kind's row (R180)
  | .unknownKind kind _ body => !isRequestKind kind && bodyFits body
  | .resetTables _ _ | .resetLog _ _ | .resetCounters _ _ | .resetDescriptor _ _
  | .resetSettings _ _ | .resetAlarms _ _ => true
  | .hostLinkByte _ | .framingError | .gapTimeout | .hostLinkFrameSent => true
  | .coldReset _ | .supplySwitchReset _ _ => true
  | .hostTxActiveFall | .hostTxActiveRise | .handoverDeadlineExpiry | .wakeAckTimerExpiry
  | .escalationPulseEnd => true
  | .frameStart _ | .phyRxer | .frameEnd _ | .frameByte _ => true
  | .transmissionStart | .transmissionEnd | .gapEnd => true
  | .checksumPassEnd | .holdDownEnd | .clearingPassEnd | .verifyPassEnd => true
  | .startCondition | .repeatedStartCondition | .addressByte _ | .pageSelectWrite _
  | .pageSelectRead _ | .readOffsetWrite _ | .descriptorReadByte _ | .stopCondition
  | .stallTimeout => true
  | .phyLinkRise | .phyLinkFall | .settleEnd | .recenter | .quarantineEnd => true
  -- a count of clock cycles over 10 ms of a clock far above the cap of R133 is no input
  | .measurement _ => true
  | .windowEnd | .alarmExpiry _ => true

end Sys2Proof
end

