-- ==== Sys2Proof/Safety.lean ====
section
/-! DEFINITION. The words the statements are made of: the host link at rest, what an answered request leaves, and what
must hold of every state a run reaches. -/

namespace Sys2Proof.Machine

/-! ### The host link at rest -/

/-- The host link takes bytes, holds no request, response or frame, and no notice is pending (R178, R181, R192). -/
abbrev HostReady (s : State) : Prop :=
  s.link.startUp = .running ∧ s.link.requests = [] ∧ s.link.executing = false ∧ s.link.slot = none
    ∧ s.link.tx = none ∧ s.events.firstPending = none

/-- A ready link after a request that was answered at once: the assembler hunts, the response is on HL_TXD. -/
def State.answered (s : State) (kind tag : Byte) (body : List Byte) : State := s.hunt.send ⟨kind, tag, body⟩

/-- A ready link while a request executes whose response waits for a later event (R179). -/
def State.awaiting (s : State) (m : Message) : State :=
  { s with link := { s.link with assembler := .hunt, requests := [m], executing := true } }

/-- The state after an event at `s` that left its block's work in `u`: HLI sends and executes what it may (R178, R181). -/
def State.hostAfter (s u : State) : State := u.settle s.link.tx.isNone

/-- The request frame a request row stands for (R174, R194); none for the rows that are no requests. -/
def requestOf : Instr → Option Message
  | .identify tag body => some ⟨0x01, tag, body⟩
  | .status tag body => some ⟨0x02, tag, body⟩
  | .resetTables tag others => some ⟨0x03, tag, [others ||| 0x01]⟩
  | .resetLog tag others => some ⟨0x03, tag, [others ||| 0x02]⟩
  | .resetCounters tag others => some ⟨0x03, tag, [others ||| 0x04]⟩
  | .resetDescriptor tag others => some ⟨0x03, tag, [others ||| 0x08]⟩
  | .resetSettings tag others => some ⟨0x03, tag, [others ||| 0x10]⟩
  | .resetAlarms tag others => some ⟨0x03, tag, [others ||| 0x20]⟩
  | .settingSet tag body => some ⟨0x04, tag, body⟩
  | .settingGet tag body => some ⟨0x05, tag, body⟩
  | .handover tag body => some ⟨0x06, tag, body⟩
  | .reclaim tag body => some ⟨0x07, tag, body⟩
  | .wakeAck tag body => some ⟨0x08, tag, body⟩
  | .answerSet tag body => some ⟨0x09, tag, body⟩
  | .answerClear tag body => some ⟨0x0A, tag, body⟩
  | .answerGet tag body => some ⟨0x0B, tag, body⟩
  | .templateSet tag body => some ⟨0x0C, tag, body⟩
  | .templateSetEmptyBody tag id ops => some ⟨0x0C, tag, id :: 0 :: ops⟩
  | .templateGet tag body => some ⟨0x0D, tag, body⟩
  | .filterInsert tag body => some ⟨0x0E, tag, body⟩
  | .filterRemove tag body => some ⟨0x0F, tag, body⟩
  | .filterGet tag body => some ⟨0x10, tag, body⟩
  | .descOpen tag body => some ⟨0x11, tag, body⟩
  | .descWrite tag body => some ⟨0x12, tag, body⟩
  | .descRead tag body => some ⟨0x13, tag, body⟩
  | .descPublish tag body => some ⟨0x14, tag, body⟩
  | .wakelogTake tag body => some ⟨0x15, tag, body⟩
  | .captureGet tag body => some ⟨0x16, tag, body⟩
  | .countersGet tag body => some ⟨0x17, tag, body⟩
  | .countersClear tag body => some ⟨0x18, tag, body⟩
  | .eventsGet tag body => some ⟨0x19, tag, body⟩
  | .eventsClear tag body => some ⟨0x1A, tag, body⟩
  | .noticeMask tag body => some ⟨0x1B, tag, body⟩
  | .alarmSet tag body => some ⟨0x1C, tag, body⟩
  | .alarmStop tag body => some ⟨0x1D, tag, body⟩
  | .alarmGet tag body => some ⟨0x1E, tag, body⟩
  | .linkGet tag body => some ⟨0x1F, tag, body⟩
  | .unknownKind kind tag body => some ⟨kind, tag, body⟩
  | _ => none

/-- The command of a byte taken after another (HOST_LINK_BYTE), from an outcome. -/
def takeByte (o : Host.Outcome State Fault Refusal) (b : Byte) : Host.Outcome State Fault Refusal :=
  match o with
  | .next u => exec (.hostLinkByte b) u
  | .fault r => .fault r
  | .refused r => .refused r

/-- The RESET row of a scope member (R189). -/
def resetRow (m : ScopeMember) (tag others : Byte) : Instr :=
  match m with
  | .tables => .resetTables tag others
  | .log => .resetLog tag others
  | .counters => .resetCounters tag others
  | .descriptor => .resetDescriptor tag others
  | .settings => .resetSettings tag others
  | .alarms => .resetAlarms tag others

/-- What a RESET leaves of the members of its scope other than DESCRIPTOR: TABLES (R57, R79), LOG (R105), COUNTERS
(R41), SETTINGS (R188), ALARMS (R171). -/
def State.namedScopes (s : State) (scope : Byte) : State :=
  { s with
    filters := if names scope .tables then s.filters.filter (·.isProtected) else s.filters
    answers := if names scope .tables then
        s.answers.map (fun slot : Option AnswerEntry => slot.filter (·.isProtected)) else s.answers
    templates := if names scope .tables then
        templatesAfterTablesReset (s.answers.map fun slot : Option AnswerEntry => slot.filter (·.isProtected)) s.templates
      else s.templates
    wlog := if names scope .log then { s.wlog with records := [], slots := Vector.replicate 2 none } else s.wlog
    pool := if names scope .log then ((s.freeSlot 0).freeSlot 1).pool else s.pool
    counters := if names scope .counters then Vector.replicate 23 0 else s.counters
    settings := if names scope .settings then Settings.default else s.settings
    alarms := if names scope .alarms then alarmsCold else s.alarms }

/-- A wake record of a cause with no capture (R97). -/
def plainRecord (q : Word) (now : Time) (cause : WakeCause) (detail : Option Half) : WakeRecord :=
  ⟨q, now, cause, detail, none, 0⟩

/-- The wake causes at the end of a supply-switch reset of `us` microseconds, each with its detail: SUPPLY_SWITCH where
wake_on_supply_switch is set (R22), and ALARM for each timer with an expiry in the reset (R172). -/
def State.resetCauses (s : State) (us : Nat) : List (WakeCause × Option Half) :=
  (if s.settings.wakeOnSupplySwitch = 1 then [(.supplySwitch, none)] else [])
    ++ ((List.finRange 4).filter fun n => s.alarms[n].expiresWithin s.time us).map
      fun n => (.alarm, some (BitVec.ofNat 16 n.val))

/-- The records of a log into whose newest one more cause is coalesced (R99); an empty log has none (R100). -/
def coalescedInto (records : List WakeRecord) : List WakeRecord :=
  match records.getLast? with
  | none => []
  | some r => records.dropLast ++ [{ r with coalesced := if r.coalesced < 255 then r.coalesced + 1 else 255 }]

/-- The log after a cause with no frame taken at `now` in a proxy state: a record at the tail, or with 8 records or no
sequence number left one more coalesced (R96, R97, R99, R100). -/
def Wlog.withCause (now : Time) (w : Wlog) (c : WakeCause × Option Half) : Wlog :=
  match w.nextSeq with
  | none => { w with records := coalescedInto w.records }
  | some q =>
    if w.records.length < 8 then
      { w with
        records := w.records ++ [plainRecord q now c.1 c.2]
        nextSeq := if q = 0xFFFFFFFF then none else some (q + 1) }
    else { w with records := coalescedInto w.records }

/-- The log as a supply-switch reset keeps it: every record in place with its capture absent, both slots free, the next
sequence number as it was (R93, R106). -/
def Wlog.kept (w : Wlog) : Wlog where
  records := w.records.map fun r => { r with capture := none }
  slots := Vector.replicate 2 none
  nextSeq := w.nextSeq

/-- What the rules give every block at a cold reset (R19, R30, R36, R41, R57, R79, R92, R104, R127, R148, R159, R163,
R171, R186, R188, R192). -/
def ColdValues (t : State) : Prop :=
  (t.prc.presence = .passive ∧ t.lineSelPart = false ∧ t.wakeLine = false ∧ t.escalateLine = false
      ∧ t.prc.handoverDeadline = none ∧ t.prc.wakeAckTimer = none ∧ t.prc.escalations = 0
      ∧ t.prc.pendingResponse = .none)
    ∧ (t.rxp = .idle ∧ (∀ i : Fin 10, t.pool[i].owner = .free) ∧ t.freeCount = 10)
    ∧ (t.filters = [] ∧ (∀ i : Fin 32, t.answers[i] = none) ∧ ∀ id : Fin 16, t.templates[id] = none)
    ∧ (t.txq.queue = [] ∧ t.txq.transmitter = .idle)
    ∧ (t.wlog.records = [] ∧ (∀ k : Fin 2, t.wlog.slots[k] = none) ∧ t.wlog.nextSeq = some 1)
    ∧ (t.desc.state = .clearing ∧ t.readyLine = false ∧ t.desc.published = 0 ∧ t.desc.page = 0
      ∧ t.desc.readOffset = 0 ∧ t.desc.transaction = none ∧ t.desc.deferred = .none ∧ t.desc.readyLow = 0
      ∧ t.desc.holdDownEnd = none)
    ∧ (t.lmon.link = .down ∧ t.lmon.latest = none ∧ t.lmon.reference = none ∧ t.lmon.quarantineEnd = none
      ∧ t.lmon.lastRecenter = none ∧ t.lmon.recenters = 0 ∧ t.lmon.firstUp = true ∧ t.lmon.fill = 0
      ∧ t.lmon.intervalEnd.toNat = 10000)
    ∧ (t.shed.level = 0 ∧ (∀ k : Fin 4, t.shed.counts[k] = 0) ∧ t.shed.windowStart = 0 ∧ t.shed.windowMs = 1000)
    ∧ (t.time = 0 ∧ ∀ n : Fin 4, t.alarms[n].state = .idle ∧ t.alarms[n].initial = 0
      ∧ t.alarms[n].periodic = false ∧ t.alarms[n].expiries = 0)
    ∧ (t.link.assembler = .hunt ∧ t.link.requests = [] ∧ t.link.executing = false ∧ t.link.slot = none
      ∧ t.link.tx = none ∧ t.link.startUp = .clearing ∧ t.events.mask = 0xFFFF)
    ∧ (t.settings = Settings.default ∧ ∀ p : Fin 23, t.counters[p] = 0)

/-! ### What every step keeps -/

/-- The descriptor store is in its canonical form (log 15). -/
def StoreCanonical (s : State) : Prop := Memory.wf s.desc.store = true

/-- The collections hold no more than their rules allow (R45, R80, R93, R177). -/
def WithinCapacity (s : State) : Prop :=
  s.filters.length ≤ Config.filterCapacity ∧ s.txq.queue.length ≤ Config.queueCapacity
    ∧ s.wlog.records.length ≤ Config.logCapacity ∧ s.link.requests.length ≤ Config.requestCapacity

/-- Every answer entry names a defined template (R58, R73, R79). -/
def EntriesNameTemplates (s : State) : Prop :=
  ∀ (i : Fin 32) (e : AnswerEntry), s.answers[i] = some e → (s.templates[e.template]).isSome = true

/-- How many bytes a copy operation writes (R69, R70). -/
def CopyOp.width (o : CopyOp) : Nat :=
  match o.source with
  | .frame => o.len.toNat
  | .station => 6

/-- A template as TEMPLATE_SET admits it: a body of 14 to 128 bytes, at most eight copy operations, each of which writes
inside the body (R68, R69, R72). -/
def Template.Fits (t : Template) : Prop :=
  14 ≤ t.body.length ∧ t.body.length ≤ 128 ∧ t.edits.length ≤ 8
    ∧ ∀ o ∈ t.edits, o.dstOffset.toNat + o.width ≤ t.body.length

/-- Every defined template fits, and no buffer holds more than 256 bytes (R31, R68). -/
def BytesFit (s : State) : Prop :=
  (∀ (id : Fin 16) (t : Template), s.templates[id] = some t → t.Fits)
    ∧ ∀ i : Fin 10, s.pool[i].bytes.length ≤ Config.storedCapacity

/-- A request is executing only while the queue holds one (R178). -/
def ExecutingHasRequest (s : State) : Prop := s.link.executing = true → s.link.requests ≠ []

/-- A notice is pending only for a flag that is set and whose mask bit is set (R182, R184, R185). -/
def NoticesOfSetFlags (s : State) : Prop :=
  ∀ i : Fin 16, (s.events.notices[i]).isSome = true → s.events.flags.getLsbD i = true ∧ s.events.mask.getLsbD i = true

/-- PRC's timers, count and pending response agree with its presence state (R1, R10, R12, R13). -/
def PrcAgrees (s : State) : Prop :=
  (s.prc.handoverDeadline.isSome = true ↔ s.prc.presence = .entering)
    ∧ (s.prc.wakeAckTimer.isSome = true ↔
        s.prc.presence = .waking ∨ (s.prc.presence = .escalated ∧ s.prc.escalations = 1))
    ∧ (s.prc.pulseEnd.isSome = true → s.prc.presence = .escalated)
    ∧ (s.prc.pendingResponse = .handover ↔ s.prc.presence = .entering)
    ∧ (s.prc.pendingResponse = .reclaim ↔ s.prc.presence = .leaving)
    ∧ (s.prc.presence = .escalated → s.prc.escalations ≠ 0)
    ∧ (s.prc.escalations ≠ 0 → s.prc.presence = .escalated ∨ s.prc.presence = .leaving)

/-- The transmit queue and the transmitter agree with the presence state and the link (R80, R81, R82, R90). -/
def TransmitAgrees (s : State) : Prop :=
  (s.prc.presence = .passive ∨ s.prc.presence = .entering → s.txq.queue = [] ∧ s.phyTxen = false)
    ∧ (s.prc.presence = .leaving → s.txq.queue.length = 1 ∧ s.phyTxen = true)
    ∧ (s.phyTxen = true → s.txq.queue ≠ [] ∧ ∃ c, s.lmon.link = .up c)

/-- The descriptor's items agree with its state (R107, R110, R117, R118, R121) and the store holds no position past 1023. -/
def DescAgrees (s : State) : Prop :=
  (s.desc.holdDownEnd.isSome = true ↔ s.desc.state = .holddown)
    ∧ (s.desc.transaction.isSome = true → s.desc.state = .published)
    ∧ (s.desc.deferred ≠ .none → s.desc.transaction.isSome = true)
    ∧ (s.desc.passLatest.isSome = true ↔ s.desc.state.inPass = true)
    ∧ s.desc.published ≤ 8 ∧ s.desc.passCount ≤ 8
    ∧ ∀ cell ∈ s.desc.store, cell.1 < Config.storeSize

/-- Quarantine and the last recenter stand only in UP (R132). -/
def LinkAgrees (s : State) : Prop :=
  (∃ c, s.lmon.link = .up c) ∨ (s.lmon.quarantineEnd = none ∧ s.lmon.lastRecenter = none)

/-- Every setting lies in its range (R187). -/
def SettingsInRange (s : State) : Prop :=
  (∀ id lo hi v, settingRange id = some (lo, hi) → s.settings.number id = some v → lo ≤ v ∧ v ≤ hi)
    ∧ ∀ k : Fin 4, 1 ≤ s.settings.tiers[k].threshold ∧ s.settings.tiers[k].threshold ≤ 65535
      ∧ s.settings.tiers[k].level ≠ 0

/-- Each buffer has one holder, the one its owner state names: RXP, one queued reply, or one capture slot (R31, R34, R98). -/
def PoolAccounted (s : State) : Prop :=
  (s.txq.queue.map QueuedReply.buf).Nodup
    ∧ (∀ b, s.wlog.slots[0] = some b → s.wlog.slots[1] ≠ some b)
    ∧ ∀ i : Fin 10,
      (s.pool[i].owner = .receiving ↔ ∃ f, s.rxp = .storing i f)
        ∧ (s.pool[i].owner = .queued ↔ i ∈ s.txq.queue.map QueuedReply.buf)
        ∧ (s.pool[i].owner = .captured ↔ s.wlog.slots[0] = some i ∨ s.wlog.slots[1] = some i)

/-- The sequence numbers of the log strictly increase and lie below the next one (R93, R97). -/
def SequencesRise (s : State) : Prop :=
  (s.wlog.records.map fun r => r.seq.toNat).Pairwise (· < ·)
    ∧ ∀ q, s.wlog.nextSeq = some q → ∀ r ∈ s.wlog.records, r.seq.toNat < q.toNat

end Sys2Proof.Machine
end

