-- ==== Sys2Proof/Certificates/Slice0/Obligations.lean ====
section
/-! DEFINITION. The statements for the provers. Where an event may be followed by a frame on HL_TXD or by the execution
of a waiting request, its statement gives the state the event leaves and `State.hostAfter` of it. -/

open Sys2Proof Sys2Proof.Machine

/-! ### The command queue and the resets -/

/-- A step takes the command at the front of the queue: it is that command's execution on the rest of the queue. -/
def Obligations.StepExecutesFrontCommand : Prop :=
  ∀ (c : Instr) (rest : List Instr) (s : State),
    step { s with pending := c :: rest } = exec c { s with pending := rest }

/-- With no command waiting a step takes one of the events that have come due, or, with none due, lets a microsecond
of the part's own clock pass (the model's choice, log 1 and log 4). That microsecond raises the time base by 1 (R162);
a RUNNING timer whose tick it is falls by 1, its next tick 1 ms later (R165); nothing else changes. -/
def Obligations.EmptyQueueStepAndTicks : Prop :=
  (∀ s : State, s.pending = [] →
     (s.nextDue = none ↔ s.dueEvents = [])
     ∧ (∀ c, s.nextDue = some c → c ∈ s.dueEvents ∧ step s = exec c { s with free := s.free + 2 })
     ∧ (s.dueEvents = [] → step s = .next s.tick))
  ∧ (∀ (s : State) (n : Fin 4) (r : Nat),
       (∃ alarms, s.tick = { s with time := s.time + 1, clock := s.clock + 1000, alarms := alarms })
       ∧ (s.alarms[n].state = .running r → s.alarms[n].nextTick = s.time + 1 →
           s.tick.alarms[n] = { s.alarms[n] with state := .running (r - 1), nextTick := s.time + 1 + 1000 })
       ∧ (s.alarms[n].nextTick ≠ s.time + 1 → s.tick.alarms[n] = s.alarms[n])
       ∧ (s.alarms[n].state = .idle ∨ s.alarms[n].state = .spent → s.tick.alarms[n] = s.alarms[n]))

/-- The machine right after reset has every value the rules give for a cold reset and no command waiting, and every
invariant below holds of it. -/
def Obligations.ResetHasColdValuesAndInvariants : Prop :=
  (ColdValues State.reset ∧ State.reset.pending = [])
  ∧ (StoreCanonical State.reset ∧ WithinCapacity State.reset ∧ EntriesNameTemplates State.reset ∧ BytesFit State.reset
       ∧ ExecutingHasRequest State.reset ∧ NoticesOfSetFlags State.reset ∧ PrcAgrees State.reset
       ∧ TransmitAgrees State.reset ∧ DescAgrees State.reset ∧ LinkAgrees State.reset ∧ SettingsInRange State.reset
       ∧ PoolAccounted State.reset ∧ SequencesRise State.reset)

/-- A cold reset puts every block in its cold state, whatever the state before, and reads the factory record: a record
whose check value does not match raises FACTORY_BAD. The input levels are not the part's to reset. -/
def Obligations.ColdResetRestartsEveryBlock : Prop :=
  ∀ (s : State) (fast : Bool), ∃ t, exec (.coldReset fast) s = .next t
    ∧ ColdValues t
    ∧ t.pins = s.pins ∧ t.link.fastRate = fast
    ∧ t.factory.station = s.otp.station ∧ t.factory.serial = s.otp.serial ∧ t.factory.revision = s.otp.revision
    ∧ (t.factory.good = true ↔
        crc16 (s.otp.station.toList ++ s.otp.serial.toList ++ [s.otp.revision]) = s.otp.check)
    ∧ t.events.flags = (if t.factory.good then 0 else 1)
    ∧ ∀ i : Fin 16, t.events.notices[i] = (if t.factory.good = false ∧ i = 0 then some 0 else none)

/-- R104: the wake log at a cold reset, and the sequence of the first record after it. -/
def Obligations.ColdResetEmptiesWakeLog : Prop :=
  ∀ (s : State) (fast : Bool), ∃ t, exec (.coldReset fast) s = .next t
    ∧ t.wlog.records = [] ∧ (∀ k : Fin 2, t.wlog.slots[k] = none) ∧ t.wlog.nextSeq = some 1
    ∧ (∀ i : Fin 10, t.pool[i].owner = .free)
    ∧ ∀ (u : State) (o : Offer), u.wlog = t.wlog → u.prc.presence.isProxy = true → u.causeAllowed o = true →
        ∃ r, (u.takeCause o).wlog.records = [r] ∧ r.seq = 1

/-- R41: the counter bank at each reset. The warm reset is taken in PASSIVE with the host link at rest; its rows
without DESCRIPTOR are answered at once, and the DESCRIPTOR row leaves the bank as the named scopes do. -/
def Obligations.CounterBankAtEachReset : Prop :=
  (∀ (s : State) (fast : Bool), ∃ t, exec (.coldReset fast) s = .next t ∧ ∀ p : Fin 23, t.counters[p] = 0)
    ∧ (∀ (s : State) (us : Nat) (fast : Bool), ∃ t,
        exec (.supplySwitchReset us fast) s = .next t ∧ t.counters = s.counters)
    ∧ ∀ (s : State) (m : ScopeMember) (tag others : Byte), HostReady s → s.prc.presence = .passive →
        (others ||| m.bit) &&& 0xC0 = 0 → ∃ t, exec (resetRow m tag others) s = .next t
          ∧ if names (others ||| m.bit) .counters then ∀ p : Fin 23, t.counters[p] = 0
            else t.counters = s.counters

/-- R57: the filter list at each reset. -/
def Obligations.FilterListAtEachReset : Prop :=
  (∀ (s : State) (fast : Bool), ∃ t, exec (.coldReset fast) s = .next t ∧ t.filters = [])
    ∧ (∀ (s : State) (us : Nat) (fast : Bool), ∃ t,
        exec (.supplySwitchReset us fast) s = .next t ∧ t.filters = s.filters)
    ∧ ∀ (s : State) (m : ScopeMember) (tag others : Byte), HostReady s → s.prc.presence = .passive →
        (others ||| m.bit) &&& 0xC0 = 0 → ∃ t, exec (resetRow m tag others) s = .next t
          ∧ t.filters = if names (others ||| m.bit) .tables then s.filters.filter (·.isProtected) else s.filters

/-- RESET (R189, R128): a scope with a bit outside the six members is BAD_ARGUMENT, else one outside PASSIVE is
WRONG_STATE, and neither changes anything but the host link; else it acts on exactly the scopes it names. Without
DESCRIPTOR it is answered OK with its scope at once; with it, the request executes on until the pass ends, and DESC
does what its row of R128 says. R128 has no row for SUMMING: that a RESET begins the clearing pass there, too, is the
model's choice (log 25). Of the templates, TABLES undefines each that no remaining entry names and leaves the others
(R79); of the pool, LOG makes FREE the buffers that the capture slots hold (R105) and leaves the others. -/
def Obligations.WarmResetByScope : Prop :=
  (∀ (s : State) (scope : Byte) (id : Fin 16),
    let after := (s.namedScopes scope).templates[id]
    (names scope .tables = false → after = s.templates[id])
    ∧ ((∃ (i : Fin 32) (e : AnswerEntry), s.answers[i] = some e ∧ e.isProtected = true ∧ e.template = id) →
        after = s.templates[id])
    ∧ (names scope .tables = true →
        (∀ (i : Fin 32) (e : AnswerEntry), s.answers[i] = some e → e.isProtected = true → e.template ≠ id) →
        after = none))
  ∧ (∀ (s : State) (scope : Byte) (b : Fin 10),
      (s.namedScopes scope).pool[b] =
        if names scope .log = true ∧ (s.wlog.slots[0] = some b ∨ s.wlog.slots[1] = some b) then
          { s.pool[b] with owner := .free }
        else s.pool[b])
  ∧ ∀ (s : State) (m : ScopeMember) (tag others scope : Byte), HostReady s → scope = others ||| m.bit →
    (scope &&& 0xC0 ≠ 0 → exec (resetRow m tag others) s = .next (s.answered 0x83 tag [3]))
    ∧ (scope &&& 0xC0 = 0 → s.prc.presence ≠ .passive →
      exec (resetRow m tag others) s = .next (s.answered 0x83 tag [2]))
    ∧ (scope &&& 0xC0 = 0 → s.prc.presence = .passive → names scope .descriptor = false →
      exec (resetRow m tag others) s = .next ((s.namedScopes scope).answered 0x83 tag [0, scope]))
    ∧ (scope &&& 0xC0 = 0 → s.prc.presence = .passive → names scope .descriptor = true →
      exec (resetRow m tag others) s = .next ({ s.namedScopes scope with desc :=
        match s.desc.state, s.desc.transaction with
        | .clearing, _ => s.desc
        | .verifying, _ => s.desc
        | .published, some _ => { s.desc with deferred := .reset }
        | .published, none => { s.desc with
            state := .clearing, readyLow := s.time, page := 0, readOffset := 0, holdDownEnd := none
            passLatest := some (s.clock + 1000000) }
        | _, _ => { s.desc with
            state := .clearing, holdDownEnd := none, passLatest := some (s.clock + 1000000) } }.awaiting
          ⟨0x03, tag, [scope]⟩))

/-- A supply-switch reset keeps the retention domain and starts the rest afresh; its length is the command's (log 19).
Of the alarm timers (R164, R172) one in IDLE or SPENT is as it was; one in RUNNING has taken the ticks that fell in the
reset, or, where they took it to 0, one expiry: SPENT, or RUNNING to the next period boundary after the reset. The wake
log keeps its records in place without their captures, and its next sequence number (R93, R106); the causes of the
reset's end, if any, are taken after it in a proxy state, in some order (R22, R101, R172). LMON's elastic buffer is
emptied and its measurement intervals start anew: the first ends 10 ms after the reset (R149). -/
def Obligations.SupplySwitchKeepsRetentionDomain : Prop :=
  ∀ (s : State) (us : Nat) (fast : Bool), ∃ t, exec (.supplySwitchReset us fast) s = .next t
    ∧ t.time = s.time + BitVec.ofNat 48 us
    ∧ (t.filters = s.filters ∧ t.answers = s.answers ∧ t.templates = s.templates ∧ t.settings = s.settings
        ∧ t.factory = s.factory ∧ t.counters = s.counters ∧ t.events.mask = s.events.mask
        ∧ s.events.flags &&& t.events.flags = s.events.flags ∧ t.lmon.recenters = s.lmon.recenters)
    ∧ (∀ n : Fin 4,
        let a := s.alarms[n]
        let toNext := (a.nextTick - s.time).toNat
        let ticks := if toNext ≤ us then 1 + (us - toNext) / 1000 else 0
        let nextTick := a.nextTick + BitVec.ofNat 48 (ticks * 1000)
        (a.state = .idle ∨ a.state = .spent → t.alarms[n] = a ∧ a.expiresWithin s.time us = false)
        ∧ ∀ r, a.state = .running r →
          (ticks < r → t.alarms[n] = { a with state := .running (r - ticks), nextTick := nextTick }
            ∧ a.expiresWithin s.time us = false)
          ∧ (r ≤ ticks → t.alarms[n] = { a with
                state := if a.periodic then .running (a.initial.toNat - (ticks - r) % a.initial.toNat) else .spent
                nextTick := nextTick
                expiries := if a.expiries < 65535 then a.expiries + 1 else 65535 }
            ∧ a.expiresWithin s.time us = true))
    ∧ ((s.prc.presence.isProxy = false → t.wlog = s.wlog.kept)
        ∧ (s.prc.presence.isProxy = true → ∃ order : List (WakeCause × Option Half),
            order.Perm (s.resetCauses us) ∧ t.wlog = order.foldl (Wlog.withCause t.time) s.wlog.kept))
    ∧ (t.rxp = .idle ∧ (∀ i : Fin 10, t.pool[i].owner = .free) ∧ t.txq.queue = [] ∧ t.txq.transmitter = .idle
        ∧ ∀ k : Fin 2, t.wlog.slots[k] = none)
    ∧ (t.lmon.link = .down ∧ t.lmon.latest = none ∧ t.lmon.reference = none ∧ t.lmon.quarantineEnd = none
        ∧ t.lmon.lastRecenter = none ∧ t.lmon.firstUp = true ∧ t.lmon.fill = 0
        ∧ t.lmon.intervalEnd = t.time + 10000)
    ∧ (t.shed.level = 0 ∧ (∀ k : Fin 4, t.shed.counts[k] = 0) ∧ t.shed.windowStart = t.time
        ∧ t.shed.windowMs = s.settings.shedWindowMs)
    ∧ (t.desc.page = 0 ∧ t.desc.readOffset = 0 ∧ t.desc.transaction = none ∧ t.desc.deferred = .none
        ∧ t.desc.readyLow = s.time ∧ t.desc.holdDownEnd = none ∧ t.desc.published = s.desc.published
        ∧ (s.desc.state ≠ .summing → t.desc.store = s.desc.store)
        ∧ t.desc.state = match s.desc.state with
            | .empty => .empty
            | .clearing => .clearing
            | .editing => .editing
            | .summing => .editing
            | .holddown => .verifying
            | .published => .verifying
            | .verifying => .verifying
            | .faulted => .faulted)
    ∧ (t.link.assembler = .hunt ∧ t.link.requests = [] ∧ t.link.executing = false ∧ t.link.slot = none
        ∧ t.link.startUp = .started ∧ t.link.fastRate = fast
        ∧ t.link.tx.map (·.message) = some ⟨0x41, 0, [1, if s.factory.good then 0 else 1]⟩)

/-- The presence state and the wake causes of a supply-switch reset (R21, R22, R172); the wake-ack timer of WAKING begins
at its end (log 19). In PASSIVE every cause is dropped; in a proxy state each adds a record or is coalesced, and in
PROXY the first makes the state WAKING. ALARMn is raised for each timer with an expiry in the reset, LOG_FULL where a
cause is coalesced, no other flag; a notice is pending of each flag that rose with its mask bit set, and of no other. -/
def Obligations.SupplySwitchSettlesPresence : Prop :=
  ∀ (s : State) (us : Nat) (fast : Bool), ∃ t, exec (.supplySwitchReset us fast) s = .next t
      ∧ t.escalateLine = false ∧ t.prc.handoverDeadline = none ∧ t.prc.pendingResponse = .none
      ∧ t.prc.escalations = 0
      ∧ ((s.prc.presence = .passive ∨ s.prc.presence = .entering ∨ s.prc.presence = .leaving) →
          t.prc.presence = .passive ∧ t.prc.wakeAckTimer = none ∧ t.wlog = s.wlog.kept)
      ∧ ((s.prc.presence = .waking ∨ s.prc.presence = .escalated) →
          t.prc.presence = .waking
            ∧ t.prc.wakeAckTimer = some (t.clock + s.settings.wakeAckTimeoutMs * 1000000))
      ∧ (s.prc.presence = .proxy → s.resetCauses us = [] →
          t.prc.presence = .proxy ∧ t.prc.wakeAckTimer = none ∧ t.wlog = s.wlog.kept)
      ∧ (s.prc.presence = .proxy → s.resetCauses us ≠ [] →
          t.prc.presence = .waking
            ∧ t.prc.wakeAckTimer = some (t.clock + s.settings.wakeAckTimeoutMs * 1000000))
      ∧ (s.prc.presence.isProxy = true → ∃ order : List (WakeCause × Option Half),
          order.Perm (s.resetCauses us) ∧ t.wlog = order.foldl (Wlog.withCause t.time) s.wlog.kept)
      ∧ (∀ q, s.prc.presence.isProxy = true → s.wlog.nextSeq = some q → s.wlog.records.length < 8 →
          s.resetCauses us = [(.supplySwitch, none)] →
          t.wlog.records = s.wlog.records.map (fun r => { r with capture := none })
            ++ [plainRecord q t.time .supplySwitch none])
      ∧ (∀ f : Fin 16, t.events.flags.getLsbD f = true ↔
          s.events.flags.getLsbD f = true
            ∨ (∃ n : Fin 4, f.val = 11 + n.val ∧ s.alarms[n].expiresWithin s.time us = true)
            ∨ (f.val = 10 ∧ s.prc.presence.isProxy = true
              ∧ t.wlog.records.length < s.wlog.records.length + (s.resetCauses us).length))
      ∧ ∀ f : Fin 16, t.events.notices[f] =
          if t.events.flags.getLsbD f && !s.events.flags.getLsbD f && s.events.mask.getLsbD f then some t.time
          else none

/-! ### Presence -/

/-- HANDOVER (R5, R6): in PASSIVE with a good record and an empty log, with the line clear the switch is at once,
unforced; else the state is ENTERING with its deadline and the request executes on. Refused by the first of its three
conditions that fails, nothing but the host link changing. -/
def Obligations.HandoverSwitchesWaitsOrRefuses : Prop :=
  (∀ (s : State) (tag : Byte), HostReady s → s.prc.presence = .passive → s.factory.good = true →
     s.wlog.records = [] →
     (s.pins.hostTxActive = false → s.rxp.inReception = false →
       exec (.handover tag []) s = .next ({ s with
         prc := { s.prc with
           presence := .proxy, handoverDeadline := none, wakeAckTimer := none, escalations := 0
           pendingResponse := .none }
         txq := { s.txq with transmitter :=
           match s.lmon.link with
           | .up c => .gap (s.clock + 12 * c.byteNs)
           | _ => .idle } }.answered 0x86 tag [0, 0]))
     ∧ (s.pins.hostTxActive = true ∨ s.rxp.inReception = true →
       exec (.handover tag []) s = .next ({ s with prc := { s.prc with
           presence := .entering, pendingResponse := .handover
           handoverDeadline := some (s.clock + s.settings.handoverDeadlineMs * 1000000) } }.awaiting ⟨0x06, tag, []⟩)))
  ∧ (∀ (s : State) (tag : Byte), HostReady s →
       (s.prc.presence ≠ .passive → exec (.handover tag []) s = .next (s.answered 0x86 tag [2, 0]))
       ∧ (s.prc.presence = .passive → s.factory.good = false →
           exec (.handover tag []) s = .next (s.answered 0x86 tag [6, 0]))
       ∧ (s.prc.presence = .passive → s.factory.good = true → s.wlog.records ≠ [] →
           exec (.handover tag []) s = .next (s.answered 0x86 tag [7, 0])))

/-- The end of ENTERING. The handover deadline's expiry cuts a frame in reception and switches, answered OK with
forced 1 (R7). A fall of HOST_TX_ACTIVE with no frame in reception is the unforced switch (R6); any other fall, and
every rise, moves the level and nothing else (R8). -/
def Obligations.EnteringEndsByDeadlineOrFall : Prop :=
  (∀ (s : State) (r : Message) (rest : List Message) (d : Nat), s.prc.presence = .entering →
     s.prc.handoverDeadline = some d → d ≤ s.clock → s.link.requests = r :: rest →
     exec .handoverDeadlineExpiry s = .next (s.hostAfter { s.cutFrame with
       prc := { s.prc with
         presence := .proxy, handoverDeadline := none, wakeAckTimer := none, escalations := 0
         pendingResponse := .none }
       txq := { s.txq with transmitter :=
         match s.lmon.link with
         | .up c => .gap (s.clock + 12 * c.byteNs)
         | _ => .idle }
       link := { s.link with
         requests := rest, executing := false, slot := some ⟨responseKind r.kind, r.tag, [0, 1]⟩ } }))
  ∧ ((∀ (s : State) (r : Message) (rest : List Message), s.prc.presence = .entering → s.rxp.inReception = false →
       s.link.requests = r :: rest →
       exec .hostTxActiveFall s = .next (s.hostAfter { s with
         pins := { s.pins with hostTxActive := false }
         prc := { s.prc with
           presence := .proxy, handoverDeadline := none, wakeAckTimer := none, escalations := 0
           pendingResponse := .none }
         txq := { s.txq with transmitter :=
           match s.lmon.link with
           | .up c => .gap (s.clock + 12 * c.byteNs)
           | _ => .idle }
         link := { s.link with
           requests := rest, executing := false, slot := some ⟨responseKind r.kind, r.tag, [0, 0]⟩ } }))
     ∧ (∀ s : State, s.prc.presence ≠ .entering ∨ s.rxp.inReception = true →
         exec .hostTxActiveFall s = .next (s.hostAfter { s with pins := { s.pins with hostTxActive := false } }))
     ∧ ∀ s : State, exec .hostTxActiveRise s = .next { s with pins := { s.pins with hostTxActive := true } })

/-- What a cut does to the frame in reception (R28): RXP becomes IGNORING, the buffer of STORING becomes FREE,
RX_LINK_DISCARD rises; in IDLE and IGNORING nothing. The test of ENTERING's wait (R6): the switch exactly with
HOST_TX_ACTIVE low and no frame in reception. A cut is reported to that wait. -/
def Obligations.CutAndWaitTest : Prop :=
  ∀ s : State,
    (∀ b f, s.rxp = .storing b f → s.cutFrame = { s with
      rxp := .ignoring
      pool := s.pool.set b { s.pool[b] with owner := .free }
      counters := s.counters.set 7 (s.counters[(7 : Fin 23)] + 1) })
    ∧ (∀ f, s.rxp = .streaming f ∨ s.rxp = .discarding f → s.cutFrame = { s with
      rxp := .ignoring, counters := s.counters.set 7 (s.counters[(7 : Fin 23)] + 1) })
    ∧ (s.rxp = .idle ∨ s.rxp = .ignoring → s.cutFrame = s)
    ∧ (∀ r rest, s.prc.presence = .entering → s.pins.hostTxActive = false → s.rxp.inReception = false →
      s.link.requests = r :: rest → s.testWait = { s with
        prc := { s.prc with
          presence := .proxy, handoverDeadline := none, wakeAckTimer := none, escalations := 0
          pendingResponse := .none }
        txq := { s.txq with transmitter :=
          match s.lmon.link with
          | .up c => .gap (s.clock + 12 * c.byteNs)
          | _ => .idle }
        link := { s.link with
          requests := rest, executing := false, slot := some ⟨responseKind r.kind, r.tag, [0, 0]⟩ } })
    ∧ (s.prc.presence ≠ .entering ∨ s.pins.hostTxActive = true ∨ s.rxp.inReception = true → s.testWait = s)
    ∧ (s.rxp.inReception = true → s.cutAndReport = s.cutFrame.testWait)
    ∧ (s.rxp.inReception = false → s.cutAndReport = s)

/-- RECLAIM (R15, R16, R87): in PASSIVE answered at once; in a proxy state with nothing in transmission every waiting
reply is flushed, the frame in reception cut and the line returned; with a reply in transmission the state is LEAVING,
only that reply stays, and the request executes on. WAKE_ACK (R14): in WAKING and ESCALATED back to PROXY with the
count as it stood; in PROXY OK with no change; in PASSIVE WRONG_STATE. -/
def Obligations.ReclaimAndWakeAck : Prop :=
  (∀ (s : State) (tag : Byte), HostReady s →
     (s.prc.presence = .passive → exec (.reclaim tag []) s = .next (s.answered 0x87 tag [0, 1, 0]))
     ∧ (s.prc.presence.isProxy = true → s.phyTxen = false → ∃ (pool : Vector Buffer 10) (counters : Vector Word 23),
       exec (.reclaim tag []) s = .next ({ s.cutFrame with
         prc := { s.prc with
           presence := .passive, wakeAckTimer := none, pulseEnd := none, escalations := 0, pendingResponse := .none }
         txq := { s.txq with queue := [] }
         pool := pool, counters := counters }.answered 0x87 tag [0, 0, BitVec.ofNat 8 s.prc.escalations.val])
       ∧ (∀ i : Fin 10, pool[i].bytes = s.pool[i].bytes
         ∧ pool[i].owner = if i ∈ s.txq.queue.map QueuedReply.buf then .free else s.cutFrame.pool[i].owner)
       ∧ counters[(17 : Fin 23)] = s.counters[(17 : Fin 23)] + BitVec.ofNat 32 s.txq.queue.length
       ∧ ∀ p : Fin 23, p ≠ 17 → counters[p] = s.cutFrame.counters[p])
     ∧ (s.prc.presence.isProxy = true → s.phyTxen = true → ∃ (pool : Vector Buffer 10) (counters : Vector Word 23),
       exec (.reclaim tag []) s = .next ({ s with
         prc := { s.prc with
           presence := .leaving, wakeAckTimer := none, pulseEnd := none, pendingResponse := .reclaim }
         txq := { s.txq with queue := s.txq.queue.take 1 }
         pool := pool, counters := counters }.awaiting ⟨0x07, tag, []⟩)
       ∧ (∀ i : Fin 10, pool[i].bytes = s.pool[i].bytes
         ∧ pool[i].owner = if i ∈ (s.txq.queue.drop 1).map QueuedReply.buf then .free else s.pool[i].owner)
       ∧ counters[(17 : Fin 23)] = s.counters[(17 : Fin 23)] + BitVec.ofNat 32 (s.txq.queue.drop 1).length
       ∧ ∀ p : Fin 23, p ≠ 17 → counters[p] = s.counters[p]))
  ∧ (∀ (s : State) (tag : Byte), HostReady s →
       ((s.prc.presence = .waking ∨ s.prc.presence = .escalated) →
         exec (.wakeAck tag []) s = .next ({ s with prc := { s.prc with
           presence := .proxy, wakeAckTimer := none, pulseEnd := none, escalations := 0 } }.answered 0x88 tag
             [0, BitVec.ofNat 8 s.prc.escalations.val]))
       ∧ (s.prc.presence = .proxy → exec (.wakeAck tag []) s = .next (s.answered 0x88 tag [0, 0]))
       ∧ (s.prc.presence = .passive → exec (.wakeAck tag []) s = .next (s.answered 0x88 tag [2, 0])))

/-- The wake-ack timer's expiries and the pulse. The first makes ESCALATED with count 1, a pulse and a restarted
timer, and no event flag (R11); the second raises WAKE_UNANSWERED with count 2 and stops the timer, the state and a
running pulse staying (R12); at the pulse's end ESCALATE falls and nothing else changes (R3). -/
def Obligations.WakeAckTimerEscalatesThenReports : Prop :=
  (∀ (s : State) (d : Nat), s.prc.presence = .waking → s.prc.wakeAckTimer = some d → d ≤ s.clock →
     exec .wakeAckTimerExpiry s = .next (s.hostAfter { s with prc := { s.prc with
       presence := .escalated
       escalations := 1
       pulseEnd := some (s.clock + s.settings.escalationPulseMs * 1000000)
       wakeAckTimer := some (s.clock + s.settings.wakeAckTimeoutMs * 1000000) } }))
  ∧ (∀ (s : State) (d : Nat), s.prc.presence = .escalated → s.prc.escalations = 1 →
       s.prc.wakeAckTimer = some d → d ≤ s.clock →
       exec .wakeAckTimerExpiry s = .next (s.hostAfter { s with
         prc := { s.prc with escalations := 2, wakeAckTimer := none }
         events := s.events.raise .wakeUnanswered s.time }))
  ∧ (∀ (s : State) (d : Nat), s.prc.pulseEnd = some d → d ≤ s.clock →
       ∃ t, exec .escalationPulseEnd s = .next t ∧ t = { s with prc := { s.prc with pulseEnd := none } }
         ∧ s.escalateLine = true ∧ t.escalateLine = false)

/-! ### The host link -/

/-- A request row is its frame's bytes taken one after another (R174, R175, log 7): on a link at rest, in HUNT, feeding the
bytes of the frame to the assembler gives what the row gives. -/
def Obligations.RequestRowIsItsFrameBytes : Prop :=
  ∀ (c : Instr) (m : Message) (s : State), requestOf c = some m → c.wellFormed = true → HostReady s →
    s.link.assembler = .hunt → m.bytes.foldl takeByte (.next s) = exec c s

/-- The assembler on a byte that is not discarded, in each state (R175, R176, R177): the start byte, any other byte in
HUNT, a length byte of 2..250, a byte within the frame, and the last byte of a frame whose check is good, whose
message joins the request queue. Before STARTED has been sent a byte and a request frame change nothing (R192, R193). -/
def Obligations.AssemblerTakesBytes : Prop :=
  (∀ (s : State) (b : Byte), s.link.startUp = .running →
     (s.link.assembler = .hunt → b = 0xA5 → exec (.hostLinkByte b) s = .next (s.hostAfter { s with link := { s.link with
         assembler := .length s.clock (2 ^ s.settings.linkGapExp * 1000000) } }))
     ∧ (s.link.assembler = .hunt → b ≠ 0xA5 → exec (.hostLinkByte b) s = .next (s.hostAfter s))
     ∧ (∀ last limit, s.link.assembler = .length last limit → 2 ≤ b.toNat → b.toNat ≤ 250 →
       exec (.hostLinkByte b) s = .next (s.hostAfter { s with link := { s.link with
         assembler := .gather b.toNat [] s.clock limit } }))
     ∧ (∀ len taken last limit, s.link.assembler = .gather len taken last limit → taken.length + 1 < len + 2 →
       exec (.hostLinkByte b) s = .next (s.hostAfter { s with link := { s.link with
         assembler := .gather len (taken ++ [b]) s.clock limit } }))
     ∧ ∀ len taken last limit kind tag body, s.link.assembler = .gather len taken last limit →
       len = body.length + 2 → s.link.requests.length < 4 →
       taken ++ [b] = kind :: tag :: (body ++ crc16Bytes (BitVec.ofNat 8 len :: kind :: tag :: body)) →
       exec (.hostLinkByte b) s = .next (s.hostAfter { s with link := { s.link with
         assembler := .hunt, requests := s.link.requests ++ [⟨kind, tag, body⟩] } }))
  ∧ (∀ (s : State) (b : Byte) (c : Instr) (m : Message), s.link.startUp ≠ .running → requestOf c = some m →
       exec (.hostLinkByte b) s = .next s ∧ exec c s = .next s)

/-- A length byte outside 2..250 and a frame whose check is wrong are discarded: LINK_BAD_FRAMES, LINK_FAULT, HUNT
(R175). A framing error takes no byte and changes nothing (R173); the gap limit then discards the frame with
LINK_GAP_TIMEOUTS and LINK_FAULT (R176). -/
def Obligations.AssemblerDiscardsFrames : Prop :=
  (∀ (s : State) (b : Byte), s.link.startUp = .running →
     ((∃ last limit, s.link.assembler = .length last limit ∧ (b.toNat < 2 ∨ 250 < b.toNat))
       ∨ (∃ len taken last limit, s.link.assembler = .gather len taken last limit ∧ 2 ≤ len
           ∧ taken.length = len + 1
           ∧ (taken ++ [b]).drop len ≠ crc16Bytes (BitVec.ofNat 8 len :: taken.take len))) →
     exec (.hostLinkByte b) s = .next (s.hostAfter { s with
       link := { s.link with assembler := .hunt }
       counters := s.counters.set 18 (s.counters[(18 : Fin 23)] + 1)
       events := s.events.raise .linkFault s.time }))
  ∧ ((∀ s : State, exec .framingError s = .next s)
     ∧ ∀ (s : State) (last limit : Nat), last + limit ≤ s.clock →
         (s.link.assembler = .length last limit ∨ ∃ len taken, s.link.assembler = .gather len taken last limit) →
         exec .gapTimeout s = .next (s.hostAfter { s with
           link := { s.link with assembler := .hunt }
           counters := s.counters.set 20 (s.counters[(20 : Fin 23)] + 1)
           events := s.events.raise .linkFault s.time }))

/-- A valid request frame is appended at the tail of the request queue, or dropped when the queue holds four: then
LINK_DROPPED_FRAMES rises and LINK_FAULT is raised, and it gets no response (R177). That a request row finds the
assembler in LENGTH or GATHER and drops the frame there is the model's choice (log 34). -/
def Obligations.RequestQueueAppendsOrDrops : Prop :=
  ∀ (s : State) (c : Instr) (m : Message), requestOf c = some m → s.link.startUp = .running →
    (s.link.requests.length < 4 → exec c s = .next (s.hostAfter { s with link := { s.link with
        assembler := .hunt, requests := s.link.requests ++ [m] } }))
    ∧ (4 ≤ s.link.requests.length → exec c s = .next (s.hostAfter { s with
        link := { s.link with assembler := .hunt }
        counters := s.counters.set 19 (s.counters[(19 : Fin 23)] + 1)
        events := s.events.raise .linkFault s.time }))

/-- The end of a frame on HL_TXD, whenever it is reported (R181, R183, R192, R178, log 6): a waiting response goes first;
else the pending notice of lowest flag number goes and is no longer pending; with neither the side stays free. After
STARTED bytes are taken. While a request executes, those behind it wait on; with none executing the head of the queue
begins to execute in the same event (the model's reading, log 10). An EVENTS_GET alone in the queue is the example.
A frame takes ten bit times a byte, at 1,000,000 or 115,200 baud (R173; rounded up to a nanosecond, log 9). After an
event whose work leaves a frame on HL_TXD nothing is sent; after one whose work leaves the side free, with no response
and notices pending, the one of lowest flag number goes at once (R181, R183). -/
def Obligations.FreeSideSendsAndNextExecutes : Prop :=
  (∀ (s : State) (o : Outgoing), s.link.tx = some o → s.link.startUp ≠ .clearing →
     let free : State := { s with link := { s.link with tx := none, startUp := .running } }
     let begun (u : State) (r : Message) : State :=
       runKind r.kind r.body { u with link := { u.link with executing := true } }
     (∀ m, s.link.slot = some m →
        let sent := { free with link := { free.link with slot := none } }.send m
        (s.link.executing = true ∨ s.link.requests = [] → exec .hostLinkFrameSent s = .next sent)
        ∧ ∀ r rest, s.link.executing = false → s.link.requests = r :: rest →
          exec .hostLinkFrameSent s = .next (begun sent r))
     ∧ (∀ (flag : Fin 16) (rise : Time), s.link.slot = none → s.events.notices[flag] = some rise →
         (∀ k : Fin 16, k < flag → s.events.notices[k] = none) →
         let sent := { free with events := { s.events with notices := s.events.notices.set flag none } }.send
           ⟨0x40, 0, BitVec.ofNat 8 flag.val :: bytesBE 6 rise.toNat⟩
         (s.link.executing = true ∨ s.link.requests = [] → exec .hostLinkFrameSent s = .next sent)
         ∧ ∀ r rest, s.link.executing = false → s.link.requests = r :: rest →
           exec .hostLinkFrameSent s = .next (begun sent r))
     ∧ (s.link.slot = none → (∀ k : Fin 16, s.events.notices[k] = none) →
         (s.link.executing = true ∨ s.link.requests = [] → exec .hostLinkFrameSent s = .next free)
         ∧ ∀ r rest, s.link.executing = false → s.link.requests = r :: rest →
           exec .hostLinkFrameSent s = .next (s.hostAfter (begun free r))))
  ∧ (∀ (s : State) (o : Outgoing) (m r : Message), s.link.tx = some o → s.link.startUp = .running →
       s.link.slot = some m → s.link.executing = false → s.link.requests = [r] → r.kind = 0x19 → r.body = [] →
       exec .hostLinkFrameSent s = .next ({ s with link := { s.link with
         tx := some ⟨m, s.clock + lineNs s.link.fastRate (m.body.length + 6)⟩
         requests := []
         slot := some ⟨0x99, r.tag, 0 :: (bytesBE 2 s.events.flags.toNat ++ bytesBE 2 s.events.mask.toNat
           ++ bytesBE 2 s.events.pendingSet.toNat)⟩ } }))
  ∧ (∀ n : Nat, 1000000 * lineNs true n = 10 * n * 1000000000
       ∧ 10 * n * 1000000000 ≤ 115200 * lineNs false n
       ∧ 115200 * lineNs false n < 10 * n * 1000000000 + 115200)
  ∧ (∀ (u : State) (m : Message), u.send m = { u with link := { u.link with
       tx := some ⟨m, u.clock + lineNs u.link.fastRate (m.body.length + 6)⟩ } })
  ∧ ∀ (s u : State),
      let begun (v : State) (r : Message) : State :=
        runKind r.kind r.body { v with link := { v.link with executing := true } }
      (u.link.tx.isSome = true →
        (u.link.executing = true ∨ u.link.requests = [] ∨ u.link.slot.isSome = true → s.hostAfter u = u)
        ∧ ∀ r rest, u.link.executing = false → u.link.slot = none → u.link.requests = r :: rest →
            s.hostAfter u = begun u r)
      ∧ ∀ (flag : Fin 16) (rise : Time), u.link.tx = none → u.link.startUp ≠ .clearing → u.link.slot = none →
          u.events.notices[flag] = some rise → (∀ k : Fin 16, k < flag → u.events.notices[k] = none) →
          let sent := { u with events := { u.events with notices := u.events.notices.set flag none } }.send
            ⟨0x40, 0, BitVec.ofNat 8 flag.val :: bytesBE 6 rise.toNat⟩
          (u.link.executing = true ∨ u.link.requests = [] → s.hostAfter u = sent)
          ∧ ∀ r rest, u.link.executing = false → u.link.requests = r :: rest → s.hostAfter u = begun sent r

/-- A frame of no request kind is answered UNKNOWN_KIND: kind plus 80h, or FFh, its tag, the status alone. A request
whose body length is not the one its kind and counts imply is answered BAD_LENGTH, the status alone (R180, R194).
Neither changes anything but the host link. -/
def Obligations.RequestsOfUnknownKindOrLength : Prop :=
  (∀ (s : State) (kind tag : Byte) (body : List Byte), HostReady s → isRequestKind kind = false →
     exec (.unknownKind kind tag body) s =
       .next (s.answered (if kind.toNat < 128 then kind + 0x80 else 0xFF) tag [8]))
  ∧ (∀ (s : State) (c : Instr) (m : Message), HostReady s → requestOf c = some m →
       (m.kind ∈ [0x01, 0x02, 0x06, 0x07, 0x08, 0x11, 0x15, 0x17, 0x18, 0x19, 0x1F] ∧ m.body.length ≠ 0
         ∨ m.kind ∈ [0x03, 0x05, 0x0A, 0x0B, 0x0D, 0x0F, 0x10, 0x14, 0x1D, 0x1E] ∧ m.body.length ≠ 1
         ∨ m.kind ∈ [0x16, 0x1A, 0x1B] ∧ m.body.length ≠ 2
         ∨ m.kind = 0x13 ∧ m.body.length ≠ 3
         ∨ m.kind = 0x04 ∧ m.body.length ≠ 5
         ∨ m.kind = 0x1C ∧ m.body.length ≠ 6
         ∨ m.kind = 0x12 ∧ (∀ n, m.body[2]? = some n → m.body.length ≠ 3 + n.toNat)
         ∨ m.kind = 0x0E ∧ (∀ t, m.body[5]? = some t → m.body.length ≠ 6 + 9 * t.toNat)
         ∨ m.kind = 0x09 ∧ (∀ t, m.body[6]? = some t → m.body.length ≠ 7 + 9 * t.toNat)
         ∨ m.kind = 0x0C ∧ (∀ n ops, m.body[1]? = some n → m.body[2 + n.toNat]? = some ops →
             m.body.length ≠ 3 + n.toNat + 4 * ops.toNat)) →
       exec c s = .next (s.answered (m.kind + 0x80) m.tag [9]))

/-! ### Identity, status, settings, counters, flags -/

/-- IDENTIFY (R190), STATUS with its twelve items (R191) and LINK_GET (R147): what each answers. Nothing changes but
the host link. R147 writes no range for the quarantine and settle times left: two bytes each are the model's reading
(log 29), as is an age of 9 at the end of an interval whose measurement is not yet taken (log 32). -/
def Obligations.IdentifyStatusAndLinkGet : Prop :=
  (∀ (s : State) (tag : Byte), HostReady s →
     (s.factory.good = true → exec (.identify tag []) s = .next (s.answered 0x81 tag
       ([0, 0x41, 0x20, s.factory.revision, 0, 1] ++ s.factory.station.toList ++ s.factory.serial.toList)))
     ∧ (s.factory.good = false → exec (.identify tag []) s = .next (s.answered 0x81 tag
       ([0, 0x41, 0x20, 0, 1, 0] ++ List.replicate 14 0))))
  ∧ (∀ (s : State) (tag : Byte), HostReady s →
       exec (.status tag []) s = .next (s.answered 0x82 tag
         ([0, s.prc.presence.code, s.desc.state.code, BitVec.ofNat 8 s.desc.published, s.lmon.link.code,
           flagByte s.lmon.quarantineEnd.isSome, BitVec.ofNat 8 s.shed.level.val, BitVec.ofNat 8 s.freeCount,
           BitVec.ofNat 8 s.txq.queue.length, BitVec.ofNat 8 s.wlog.records.length,
           BitVec.ofNat 8 s.wlog.slotsInUse] ++ bytesBE 6 s.time.toNat ++ bytesBE 2 s.events.flags.toNat)))
  ∧ (∀ (s : State) (tag : Byte), HostReady s → ∃ q v : Nat,
       q = (match s.lmon.quarantineEnd with
         | some e => ((e - s.time).toNat + 999) / 1000
         | none => 0)
       ∧ v = (match s.lmon.link with
         | .settling _ e => ((e - s.time).toNat + 999) / 1000
         | _ => 0)
       ∧ exec (.linkGet tag []) s = .next (s.answered 0x9F tag
         ([0, s.lmon.link.code, if s.lmon.quarantineEnd.isSome then 1 else 0] ++ bytesBE 2 q ++ bytesBE 2 v
           ++ (match s.lmon.latest with
             | none => [0, 0] ++ (0 :: bytesBE 4 0) ++ [0, 0]
             | some m => [1, rateClassCode (classOf m.value)] ++ (1 :: bytesBE 4 m.value)
                 ++ [1, BitVec.ofNat 8 (min 9 ((s.time - m.time).toNat / 1000))])
           ++ (match s.lmon.reference with
             | none => 0 :: bytesBE 4 0
             | some r => 1 :: bytesBE 4 r)
           ++ bytesBE 2 s.lmon.recenters.toNat ++ [if s.lmon.firstUp then 1 else 0])))

/-- The ranges and defaults of the sixteen number settings and the default of the tiers (R154, R187). SETTING_SET of a
number in its range: the setting takes the value, every other keeps its own, the response carries the value before,
and SETTING_GET then answers the new one. SETTING_SET of a tier with every field in range, SETTING_GET of any number
or tier, and the refusals: an identifier outside 1..20, a number or a tier field out of range. -/
def Obligations.SettingRequests : Prop :=
  ((∀ row ∈ ([(1, 1, 100, 10), (2, 100, 60000, 2000), (3, 10, 1000, 200), (4, 0, 1, 0), (5, 0, 1, 1),
       (6, 0, 1, 1), (7, 64, 2048, 1518), (8, 10, 2000, 200), (9, 1, 50, 10), (10, 1, 1000, 50),
       (11, 10, 10000, 500), (12, 0, 1, 1), (13, 100, 10000, 1000), (18, 100, 1000, 150), (19, 5, 200, 25),
       (20, 1, 6, 4)] : List (Nat × Nat × Nat × Nat)),
     settingRange row.1 = some (row.2.1, row.2.2.1) ∧ Settings.default.number row.1 = some row.2.2.2)
   ∧ ∀ id, 14 ≤ id → id ≤ 17 → Settings.default.value id = some [0, 0x01, 0xFF, 0xFF])
  ∧ (∀ (s : State) (tag id b0 b1 b2 b3 : Byte) (lo hi : Nat) (before : List Byte), HostReady s →
       settingRange id.toNat = some (lo, hi) → lo ≤ ofBytesBE [b0, b1, b2, b3] → ofBytesBE [b0, b1, b2, b3] ≤ hi →
       s.settings.value id.toNat = some before →
       ∃ table : Settings,
         exec (.settingSet tag [id, b0, b1, b2, b3]) s =
           .next ({ s with settings := table }.answered 0x84 tag (0 :: id :: before))
         ∧ table.number id.toNat = some (ofBytesBE [b0, b1, b2, b3])
         ∧ (∀ j, j ≠ id.toNat → table.number j = s.settings.number j) ∧ table.tiers = s.settings.tiers
         ∧ ∀ u : State, HostReady u → u.settings = table →
             exec (.settingGet tag [id]) u = .next (u.answered 0x85 tag [0, id, b0, b1, b2, b3]))
  ∧ (∀ (s : State) (tag id b0 b1 b2 b3 : Byte), HostReady s →
       (∀ (k : Fin 4) (tier : Tier), id.toNat = 14 + k.val → tier.bytes = [b0, b1, b2, b3] →
         1 ≤ tier.threshold → tier.threshold ≤ 65535 → tier.level ≠ 0 →
         exec (.settingSet tag [id, b0, b1, b2, b3]) s = .next
           ({ s with settings := { s.settings with tiers := s.settings.tiers.set k tier } }.answered 0x84 tag
             (0 :: id :: s.settings.tiers[k].bytes)))
       ∧ (∀ n, s.settings.number id.toNat = some n →
           exec (.settingGet tag [id]) s = .next (s.answered 0x85 tag ([0, id] ++ bytesBE 4 n)))
       ∧ (∀ k : Fin 4, id.toNat = 14 + k.val →
           let tier := s.settings.tiers[k]
           tier.bytes = [if tier.enabled then 1 else 0, BitVec.ofNat 8 (16 * tier.source.val + tier.level.val)]
               ++ bytesBE 2 tier.threshold
           ∧ exec (.settingGet tag [id]) s = .next (s.answered 0x85 tag ([0, id] ++ tier.bytes)))
       ∧ (id.toNat = 0 ∨ 20 < id.toNat →
           exec (.settingSet tag [id, b0, b1, b2, b3]) s = .next (s.answered 0x84 tag [3])
           ∧ exec (.settingGet tag [id]) s = .next (s.answered 0x85 tag [3]))
       ∧ (∀ lo hi, settingRange id.toNat = some (lo, hi) →
           ofBytesBE [b0, b1, b2, b3] < lo ∨ hi < ofBytesBE [b0, b1, b2, b3] →
           exec (.settingSet tag [id, b0, b1, b2, b3]) s = .next (s.answered 0x84 tag [3]))
       ∧ (14 ≤ id.toNat → id.toNat ≤ 17 →
           1 < b0.toNat ∨ 3 < b1.toNat / 16 ∨ b1.toNat % 16 = 0 ∨ 3 < b1.toNat % 16 ∨ ofBytesBE [b2, b3] = 0 →
           exec (.settingSet tag [id, b0, b1, b2, b3]) s = .next (s.answered 0x84 tag [3])))

/-- COUNTERS_GET and COUNTERS_CLEAR (R39, R40); EVENTS_GET, EVENTS_CLEAR and NOTICE_MASK (R184, R185) on a link at
rest. -/
def Obligations.CounterAndEventRequests : Prop :=
  (∀ (s : State) (tag : Byte), HostReady s →
     exec (.countersGet tag []) s = .next (s.answered 0x97 tag
       (0 :: s.counters.toList.flatMap fun c => bytesBE 4 c.toNat))
     ∧ exec (.countersClear tag []) s =
         .next ({ s with counters := Vector.replicate 23 0 }.answered 0x98 tag [0]))
  ∧ (∀ (s : State) (tag m1 m0 : Byte), HostReady s →
       exec (.eventsGet tag []) s = .next (s.answered 0x99 tag
         (0 :: (bytesBE 2 s.events.flags.toNat ++ bytesBE 2 s.events.mask.toNat ++ bytesBE 2 0)))
       ∧ (∃ t, exec (.eventsClear tag [m1, m0]) s = .next t
           ∧ t = { s with events := t.events }.answered 0x9A tag (0 :: bytesBE 2 t.events.flags.toNat)
           ∧ t.events.flags = s.events.flags &&& ~~~(m1 ++ m0) ∧ t.events.mask = s.events.mask
           ∧ ∀ i : Fin 16, t.events.notices[i] = none)
       ∧ ∃ t, exec (.noticeMask tag [m1, m0]) s = .next t
           ∧ t = { s with events := t.events }.answered 0x9B tag (0 :: bytesBE 2 s.events.mask.toNat)
           ∧ t.events.mask = m1 ++ m0 ∧ t.events.flags = s.events.flags ∧ ∀ i : Fin 16, t.events.notices[i] = none)

/-- A raise (R182): a clear flag becomes set and, with its mask bit set, its notice becomes pending with the time
base; a set flag stays set and makes no notice. EVENTS_CLEAR removes the notices of the flags it names (R184), and
NOTICE_MASK those whose new mask bit is clear (R185). The pending set has one bit for each pending notice (R184). -/
def Obligations.RaiseClearMaskAndPendingSet : Prop :=
  (∀ (e : Events) (f : EventFlag) (now : Time) (m : Half) (i : Fin 16),
     ((e.raise f now).flags = e.flags ||| flagBit f.number ∧ (e.raise f now).mask = e.mask)
     ∧ (e.raise f now).notices[i] =
         (if e.flags.getLsbD f.number = false ∧ e.mask.getLsbD f.number = true ∧ i = f.number then some now
           else e.notices[i])
     ∧ ((e.clear m).flags = e.flags &&& ~~~m ∧ (e.clear m).mask = e.mask)
     ∧ (e.clear m).notices[i] = (if m.getLsbD i = true then none else e.notices[i])
     ∧ ((e.setMask m).flags = e.flags ∧ (e.setMask m).mask = m)
     ∧ (e.setMask m).notices[i] = (if m.getLsbD i = true then e.notices[i] else none))
  ∧ (∀ (e : Events) (i : Fin 16), e.pendingSet.getLsbD i = (e.notices[i]).isSome)

/-! ### The filter list, the answer table and the templates -/

/-- FILTER_INSERT (R47) of a record in its bytes at a position 0..n of a list with room: it stands at that position
with hit count 0, and every other record keeps its order, fields and count. Refused, by the first test that fails,
nothing but the host link changing. -/
def Obligations.FilterInsertPlacesOrRefuses : Prop :=
  (∀ (s : State) (tag p : Byte) (r : FilterRecord), HostReady s → r.hits = 0 → patternWellFormed r.pattern = true →
     p.toNat ≤ s.filters.length → s.filters.length < 16 →
     exec (.filterInsert tag (p :: r.bytes)) s = .next
       ({ s with filters := s.filters.take p.toNat ++ [r] ++ s.filters.drop p.toNat }.answered 0x8E tag
         [0, BitVec.ofNat 8 (s.filters.length + 1)]))
  ∧ (∀ (s : State) (tag p l1 l0 a pr t : Byte) (terms : List Term), HostReady s → terms.length = t.toNat →
       let body := p :: l1 :: l0 :: a :: pr :: t :: terms.flatMap Term.bytes
       let bad := ¬(patternWellFormed terms = true ∧ a.toNat ≤ 2 ∧ pr.toNat ≤ 1)
       (bad ∨ s.filters.length < p.toNat →
         exec (.filterInsert tag body) s = .next (s.answered 0x8E tag [3, BitVec.ofNat 8 s.filters.length]))
       ∧ (¬bad → p.toNat ≤ s.filters.length → 16 ≤ s.filters.length →
         exec (.filterInsert tag body) s = .next (s.answered 0x8E tag [4, BitVec.ofNat 8 s.filters.length])))

/-- R48 and R49: FILTER_REMOVE takes the record at its position out of the list, protected or not; FILTER_GET reports
it and changes nothing; a position of n or greater is NOT_FOUND for both. -/
def Obligations.FilterRemoveAndGet : Prop :=
  ∀ (s : State) (tag p : Byte), HostReady s →
    (∀ r, s.filters[p.toNat]? = some r →
      exec (.filterRemove tag [p]) s = .next
        ({ s with filters := s.filters.take p.toNat ++ s.filters.drop (p.toNat + 1) }.answered 0x8F tag
          ([0, BitVec.ofNat 8 (s.filters.length - 1)] ++ bytesBE 2 r.label.toNat ++ [r.action.code]
            ++ bytesBE 2 r.hits))
      ∧ exec (.filterGet tag [p]) s = .next (s.answered 0x90 tag
          ([0, BitVec.ofNat 8 s.filters.length, p] ++ r.bytes ++ bytesBE 2 r.hits)))
    ∧ (s.filters.length ≤ p.toNat →
        exec (.filterRemove tag [p]) s = .next (s.answered 0x8F tag [5, BitVec.ofNat 8 s.filters.length])
        ∧ exec (.filterGet tag [p]) s = .next (s.answered 0x90 tag [5, BitVec.ofNat 8 s.filters.length]))

/-- TEMPLATE_SET of a template in its bytes (R72), and TEMPLATE_GET of it afterwards (R74). With the empty body (R73)
a template no entry names becomes undefined, and a named one is IN_USE with the lowest index that names it. Refused:
an id outside 0..15, a body length outside 14..128, an operation count over 8, an operation that is not well formed;
TEMPLATE_GET of an undefined slot. -/
def Obligations.TemplateRequests : Prop :=
  (∀ (s : State) (tag : Byte) (id : Fin 16) (t : Template), HostReady s →
     14 ≤ t.body.length → t.body.length ≤ 128 → t.edits.length ≤ 8 →
     (∀ o ∈ t.edits, copyOpOf t.body.length ⟨o.source.code, o.srcOffset, o.dstOffset, o.len⟩ = some o) →
     exec (.templateSet tag (t.bytes id)) s = .next
       ({ s with templates := s.templates.set id (some t) }.answered 0x8C tag
         [0, if s.templates[id].isSome then 1 else 0])
     ∧ ∀ u : State, HostReady u → u.templates[id] = some t →
         exec (.templateGet tag [BitVec.ofNat 8 id.val]) u = .next (u.answered 0x8D tag (0 :: t.bytes id)))
  ∧ (∀ (s : State) (tag : Byte) (id : Fin 16), HostReady s →
       ((∀ (i : Fin 32) (e : AnswerEntry), s.answers[i] = some e → e.template ≠ id) →
         exec (.templateSetEmptyBody tag (BitVec.ofNat 8 id.val) [0]) s = .next
           ({ s with templates := s.templates.set id none }.answered 0x8C tag
             [0, if s.templates[id].isSome then 1 else 0]))
       ∧ ∀ (i : Fin 32) (e : AnswerEntry), s.answers[i] = some e → e.template = id →
           (∀ (j : Fin 32) (f : AnswerEntry), j < i → s.answers[j] = some f → f.template ≠ id) →
           exec (.templateSetEmptyBody tag (BitVec.ofNat 8 id.val) [0]) s =
             .next (s.answered 0x8C tag [10, BitVec.ofNat 8 i.val]))
  ∧ (∀ (s : State) (tag id n m : Byte) (body : List Byte) (ops : List Quad), HostReady s →
       body.length = n.toNat → ops.length = m.toNat →
       (15 < id.toNat ∨ n.toNat ≠ 0 ∧ (n.toNat < 14 ∨ 128 < n.toNat ∨ 8 < m.toNat
           ∨ ∃ q ∈ ops, copyOpOf n.toNat q = none) ∨ n.toNat = 0 ∧ m.toNat ≠ 0 →
         exec (.templateSet tag (id :: n :: (body ++ m :: ops.flatMap Quad.bytes))) s =
           .next (s.answered 0x8C tag [3]))
       ∧ (15 < id.toNat → exec (.templateGet tag [id]) s = .next (s.answered 0x8D tag [3]))
       ∧ ∀ k : Fin 16, id.toNat = k.val → s.templates[k] = none →
           exec (.templateGet tag [id]) s = .next (s.answered 0x8D tag [5]))

/-- R69: which copy operations are well formed. -/
def Obligations.CopyOperationWellFormed : Prop :=
  ∀ (n : Nat) (src so d l : Byte), (copyOpOf n ⟨src, so, d, l⟩).isSome = true ↔
    ((src = 0 ∧ 1 ≤ l.toNat ∧ l.toNat ≤ 16) ∨ (src = 1 ∧ so = 0 ∧ l = 6))
      ∧ d.toNat ≤ 127 ∧ d.toNat + l.toNat ≤ n

/-- ANSWER_SET of an entry in its bytes (R75): the slot takes it with hit count 0 and quiet-until absent. ANSWER_SET
refused over its raw bytes: an index, a pattern, a class, a protected field, a template id out of range, or a template
not defined. ANSWER_CLEAR and ANSWER_GET (R76, R77). -/
def Obligations.AnswerRequests : Prop :=
  (∀ (s : State) (tag : Byte) (i : Fin 32) (e : AnswerEntry), HostReady s → patternWellFormed e.pattern = true →
     s.templates[e.template].isSome = true →
     exec (.answerSet tag (BitVec.ofNat 8 i.val :: e.bytes)) s = .next
       ({ s with answers := s.answers.set i (some { e with hits := 0, quietUntil := none }) }.answered 0x89 tag
         [0, if s.answers[i].isSome then 1 else 0]))
  ∧ (∀ (s : State) (tag n : Byte), HostReady s →
       (∀ (i : Fin 32) (e : AnswerEntry), n.toNat = i.val → s.answers[i] = some e →
         exec (.answerClear tag [n]) s = .next
           ({ s with answers := s.answers.set i none }.answered 0x8A tag ([0, 1] ++ bytesBE 2 e.hits))
         ∧ exec (.answerGet tag [n]) s = .next (s.answered 0x8B tag
             ([0, n] ++ e.bytes ++ bytesBE 2 e.hits
               ++ match e.quietUntil with
                 | none => 0 :: bytesBE 6 0
                 | some q => 1 :: bytesBE 6 q.toNat)))
       ∧ (∀ i : Fin 32, n.toNat = i.val → s.answers[i] = none →
           exec (.answerClear tag [n]) s = .next (s.answered 0x8A tag [0, 0, 0, 0])
           ∧ exec (.answerGet tag [n]) s = .next (s.answered 0x8B tag [5]))
       ∧ (31 < n.toNat → exec (.answerClear tag [n]) s = .next (s.answered 0x8A tag [3])
           ∧ exec (.answerGet tag [n]) s = .next (s.answered 0x8B tag [3]))
       ∧ ∀ (c id p1 p0 pr t : Byte) (terms : List Term), terms.length = t.toNat →
           31 < n.toNat ∨ patternWellFormed terms = false ∨ 2 < c.toNat ∨ 1 < pr.toNat ∨ 15 < id.toNat
             ∨ (∃ k : Fin 16, id.toNat = k.val ∧ s.templates[k] = none) →
           exec (.answerSet tag (n :: c :: id :: p1 :: p0 :: pr :: t :: terms.flatMap Term.bytes)) s =
             .next (s.answered 0x89 tag [3]))

/-! ### The descriptor store and the sideband port -/

/-- DESC_OPEN by the descriptor state (R112); with a transaction in progress it is deferred and waits. -/
def Obligations.DescOpenByState : Prop :=
  ∀ (s : State) (tag : Byte), HostReady s →
    (s.desc.state = .empty ∨ s.desc.state = .faulted ∨ s.desc.state = .editing →
      exec (.descOpen tag []) s = .next
        ({ s with desc := { s.desc with state := .editing } }.answered 0x91 tag [0, s.desc.state.code, 0]))
    ∧ (s.desc.state = .holddown →
      exec (.descOpen tag []) s = .next
        ({ s with desc := { s.desc with state := .editing, holdDownEnd := none } }.answered 0x91 tag [0, 4, 0]))
    ∧ (s.desc.state = .published → s.desc.transaction = none →
      exec (.descOpen tag []) s = .next ({ s with desc := { s.desc with
        state := .editing, readyLow := s.time, page := 0, readOffset := 0 } }.answered 0x91 tag [0, 5, 0]))
    ∧ (∀ x, s.desc.state = .published → s.desc.transaction = some x →
      exec (.descOpen tag []) s = .next ({ s with desc := { s.desc with deferred := .descOpen } }.awaiting
        ⟨0x11, tag, []⟩))
    ∧ (s.desc.state = .clearing ∨ s.desc.state = .summing ∨ s.desc.state = .verifying →
      exec (.descOpen tag []) s = .next (s.answered 0x91 tag [1, s.desc.state.code, 0]))

/-- DESC_WRITE (R114): refused by state and by range, in that order, with nothing stored; else its bytes stand at its
positions, every other position reads as before, and nothing but the store and the host link changes. -/
def Obligations.DescWriteStoresItsBytes : Prop :=
  ∀ (s : State) (tag o1 o0 n : Byte) (bytes : List Byte), HostReady s → StoreCanonical s → bytes.length = n.toNat →
    let offset := ofBytesBE [o1, o0]
    (s.desc.state.inPass = true →
      exec (.descWrite tag (o1 :: o0 :: n :: bytes)) s = .next (s.answered 0x92 tag [1]))
    ∧ (s.desc.state.inPass = false → s.desc.state ≠ .editing →
      exec (.descWrite tag (o1 :: o0 :: n :: bytes)) s = .next (s.answered 0x92 tag [2]))
    ∧ (s.desc.state = .editing → n.toNat = 0 ∨ 64 < n.toNat ∨ 1024 < offset + n.toNat →
      exec (.descWrite tag (o1 :: o0 :: n :: bytes)) s = .next (s.answered 0x92 tag [3]))
    ∧ (s.desc.state = .editing → 1 ≤ n.toNat → n.toNat ≤ 64 → offset + n.toNat ≤ 1024 →
      ∃ store, exec (.descWrite tag (o1 :: o0 :: n :: bytes)) s = .next
          ({ s with desc := { s.desc with store := store } }.answered 0x92 tag [0])
        ∧ (∀ k, k < n.toNat → bytes[k]? = some (Memory.read store (offset + k)))
        ∧ ∀ p, p < offset ∨ offset + n.toNat ≤ p → Memory.read store p = Memory.read s.desc.store p)

/-- R115: DESC_READ reports the stored bytes outside the passes and changes nothing. -/
def Obligations.DescReadReportsStore : Prop :=
  ∀ (s : State) (tag o1 o0 n : Byte), HostReady s →
    let offset := ofBytesBE [o1, o0]
    (s.desc.state.inPass = true → exec (.descRead tag [o1, o0, n]) s = .next (s.answered 0x93 tag [1]))
    ∧ (s.desc.state.inPass = false → n.toNat = 0 ∨ 64 < n.toNat ∨ 1024 < offset + n.toNat →
      exec (.descRead tag [o1, o0, n]) s = .next (s.answered 0x93 tag [3]))
    ∧ (s.desc.state.inPass = false → 1 ≤ n.toNat → n.toNat ≤ 64 → offset + n.toNat ≤ 1024 →
      exec (.descRead tag [o1, o0, n]) s = .next (s.answered 0x93 tag
        ([0, o1, o0, n] ++ (List.range n.toNat).map fun k => Memory.read s.desc.store (offset + k))))

/-- R116: DESC_PUBLISH in EDITING with a count of 1..8 begins the checksum pass and waits; else it is refused. -/
def Obligations.DescPublishBeginsPass : Prop :=
  ∀ (s : State) (tag n : Byte), HostReady s →
    (s.desc.state ≠ .editing → exec (.descPublish tag [n]) s = .next (s.answered 0x94 tag [2]))
    ∧ (s.desc.state = .editing → n.toNat = 0 ∨ 8 < n.toNat →
      exec (.descPublish tag [n]) s = .next (s.answered 0x94 tag [3]))
    ∧ (s.desc.state = .editing → 1 ≤ n.toNat → n.toNat ≤ 8 →
      exec (.descPublish tag [n]) s = .next ({ s with desc := { s.desc with
        state := .summing, passCount := n.toNat, passLatest := some (s.clock + 2000000) } }.awaiting
          ⟨0x14, tag, [n]⟩))

/-- The end of the checksum pass, whenever it is reported (log 6): every section below the count is good, every other byte of the store reads as
before, the published count is the count, and the hold-down decides between PUBLISHED and HOLDDOWN (R117, R118). The
hold-down end in HOLDDOWN: PUBLISHED, READY rises, no event flag. -/
def Obligations.ChecksumPassAndHoldDownEnd : Prop :=
  (∀ (s : State), s.desc.state = .summing → StoreCanonical s → s.desc.passCount ≤ 8 →
     ∃ store, (∀ k, k < s.desc.passCount → sectionGood store k = true)
       ∧ (∀ p, (∀ k, k < s.desc.passCount → p ≠ 128 * k + 126 ∧ p ≠ 128 * k + 127) →
           Memory.read store p = Memory.read s.desc.store p)
       ∧ (s.settings.holdDownMs * 1000 ≤ s.time.since s.desc.readyLow →
           exec .checksumPassEnd s = .next (s.hostAfter ({ s with desc := { s.desc with
             store := store, published := s.desc.passCount, passCount := 0, passLatest := none
             state := .published, holdDownEnd := none } }.respond .ok
               ([BitVec.ofNat 8 s.desc.passCount, 5] ++ bytesBE 2 0))))
       ∧ (s.time.since s.desc.readyLow < s.settings.holdDownMs * 1000 →
           exec .checksumPassEnd s = .next (s.hostAfter ({ s with desc := { s.desc with
             store := store, published := s.desc.passCount, passCount := 0, passLatest := none
             state := .holddown
             holdDownEnd := some (s.desc.readyLow + BitVec.ofNat 48 (s.settings.holdDownMs * 1000)) } }.respond .ok
               ([BitVec.ofNat 8 s.desc.passCount, 4]
                 ++ bytesBE 2 (((s.desc.readyLow + BitVec.ofNat 48 (s.settings.holdDownMs * 1000)
                     - s.time).toNat + 999) / 1000))))))
  ∧ (∀ (s : State), s.desc.state = .holddown → s.desc.holdDownEnd = some s.time →
       ∃ t, exec .holdDownEnd s = .next t ∧ t.readyLine = true
         ∧ t = { s with desc := { s.desc with state := .published, holdDownEnd := none } })

/-- The end of the clearing pass, whenever it is reported (log 6): every position reads 00h, EMPTY, published count 0. At start-up STARTED goes out; a
RESET that waits is answered with its scope. -/
def Obligations.ClearingPassEndEmptiesStore : Prop :=
  ∀ (s : State), s.desc.state = .clearing →
    ∃ desc : Desc, desc = { s.desc with store := [], state := .empty, published := 0, passLatest := none }
      ∧ (∀ p, Memory.read desc.store p = 0)
      ∧ (s.link.startUp = .clearing → s.link.requests = [] → s.link.slot = none →
          exec .clearingPassEnd s = .next ({ s with
            desc := desc, link := { s.link with startUp := .started } }.send
              ⟨0x41, 0, [0, if s.factory.good then 0 else 1]⟩))
      ∧ (∀ tag scope, s.link.startUp = .running → s.link.executing = true →
          s.link.requests = [⟨0x03, tag, [scope]⟩] → s.link.slot = none → s.link.tx = none →
          s.events.firstPending = none →
          exec .clearingPassEnd s = .next ({ s with
            desc := desc, link := { s.link with requests := [], executing := false } }.send
              ⟨0x83, tag, [0, scope]⟩))

/-- The end of the verify pass, whenever it is reported (R130, log 6): sound sections give HOLDDOWN or PUBLISHED, a bad one FAULTED with DESC_FAULT
raised and its cause offered. With a RESET waiting the rows of R128 follow at once: the clearing pass begins. -/
def Obligations.VerifyPassEndJudgesSectionsAndReset : Prop :=
  (∀ (s : State), s.desc.state = .verifying →
     (s.link.executing = true → ∀ r rest, s.link.requests = r :: rest → r.kind ≠ 0x03) →
     (sectionsGood s.desc.store s.desc.published = true →
       s.time.since s.desc.readyLow < s.settings.holdDownMs * 1000 →
       exec .verifyPassEnd s = .next (s.hostAfter { s with desc := { s.desc with
         passLatest := none, state := .holddown
         holdDownEnd := some (s.desc.readyLow + BitVec.ofNat 48 (s.settings.holdDownMs * 1000)) } }))
     ∧ (sectionsGood s.desc.store s.desc.published = true →
       s.settings.holdDownMs * 1000 ≤ s.time.since s.desc.readyLow →
       exec .verifyPassEnd s = .next (s.hostAfter { s with desc := { s.desc with
         passLatest := none, state := .published, holdDownEnd := none } }))
     ∧ ∀ k, k < s.desc.published → sectionGood s.desc.store k = false →
       exec .verifyPassEnd s = .next (s.hostAfter (({ s with
         desc := { s.desc with passLatest := none, state := .faulted }
         events := s.events.raise .descFault s.time } : State).takeCause ⟨.descFault, none, false, none⟩)))
  ∧ (∀ (s : State) (r : Message) (rest : List Message), s.desc.state = .verifying → s.desc.transaction = none →
       s.link.executing = true → s.link.requests = r :: rest → r.kind = 0x03 →
       let cleared : Desc := { s.desc with
         state := .clearing, holdDownEnd := none, passLatest := some (s.clock + 1000000) }
       (sectionsGood s.desc.store s.desc.published = true →
         s.time.since s.desc.readyLow < s.settings.holdDownMs * 1000 →
         exec .verifyPassEnd s = .next (s.hostAfter { s with desc := cleared }))
       ∧ (sectionsGood s.desc.store s.desc.published = true →
         s.settings.holdDownMs * 1000 ≤ s.time.since s.desc.readyLow →
         exec .verifyPassEnd s = .next (s.hostAfter { s with desc := { cleared with
           readyLow := s.time, page := 0, readOffset := 0 } }))
       ∧ (∀ k, k < s.desc.published → sectionGood s.desc.store k = false → s.prc.presence.isProxy = false →
         exec .verifyPassEnd s = .next (s.hostAfter { s with
           desc := cleared, events := s.events.raise .descFault s.time })))

/-- Start and repeated start conditions (R120): an address byte is awaited; a start keeps its time and the stall time.
That the two rows are one event, told apart by the transaction alone, is the model's reading (log 23).
An address byte (R121): 3Ah and 3Bh are acknowledged in PUBLISHED with no request deferred, and a transaction begins;
else they count SIDEBAND_REFUSALS; another address counts nothing. After a repeated start a new segment begins,
deferred request or not; for another device the part stays silent and the transaction remains. -/
def Obligations.BusStartsAndAddressBytes : Prop :=
  (∀ (s : State), exec .startCondition s = exec .repeatedStartCondition s
     ∧ (s.desc.transaction = none → exec .startCondition s = .next { s with desc := { s.desc with
         bus := .afterStart s.time s.settings.sidebandStallMs, sda := .released } })
     ∧ ∀ x, s.desc.transaction = some x → exec .repeatedStartCondition s = .next { s with desc := { s.desc with
         bus := .afterRepeatedStart, sda := .released } })
  ∧ (∀ (s : State) (b : Byte) (start : Time) (stall : Nat), s.desc.bus = .afterStart start stall →
       (s.desc.state = .published → s.desc.deferred = .none → b.toNat / 2 = 0x3A ∨ b.toNat / 2 = 0x3B →
         exec (.addressByte b) s = .next { s with desc := { s.desc with
           bus := .nothing, sda := .ack
           transaction := some ⟨start, stall, if b.toNat / 2 = 0x3A then .descriptor else .pageSelect,
             b.toNat % 2 == 1, 0, false, false⟩ } })
       ∧ (s.desc.state ≠ .published ∨ s.desc.deferred ≠ .none → b.toNat / 2 = 0x3A ∨ b.toNat / 2 = 0x3B →
         exec (.addressByte b) s = .next { s with
           desc := { s.desc with bus := .nothing, sda := .nack }
           counters := s.counters.set 22 (s.counters[(22 : Fin 23)] + 1) })
       ∧ (b.toNat / 2 ≠ 0x3A → b.toNat / 2 ≠ 0x3B →
         exec (.addressByte b) s = .next { s with desc := { s.desc with bus := .nothing, sda := .nack } }))
  ∧ (∀ (s : State) (b : Byte) (x : Transaction), s.desc.bus = .afterRepeatedStart → s.desc.transaction = some x →
       s.desc.state = .published →
       (b.toNat / 2 = 0x3A ∨ b.toNat / 2 = 0x3B →
         exec (.addressByte b) s = .next { s with desc := { s.desc with
           bus := .nothing, sda := .ack
           transaction := some { x with
             target := if b.toNat / 2 = 0x3A then .descriptor else .pageSelect
             reading := b.toNat % 2 == 1, dataBytes := 0, released := false } } })
       ∧ (b.toNat / 2 ≠ 0x3A → b.toNat / 2 ≠ 0x3B →
         exec (.addressByte b) s = .next { s with desc := { s.desc with
           bus := .nothing, sda := .nack
           transaction := some { x with
             target := .other, reading := b.toNat % 2 == 1, dataBytes := 0, released := false } } }))

/-- R122: the page select is written by the first byte 00h..03h of a write segment at 3Bh and sent in a read segment.
R123: the read offset is written by the first byte of a write segment at 3Ah; a read segment sends the byte at (page
select, read offset), FFh outside the published sections, and the offset rises within the page. -/
def Obligations.SidebandSegments : Prop :=
  (∀ (s : State) (x : Transaction) (b : Byte) (ack : Bool), s.desc.bus = .nothing → s.desc.transaction = some x →
     x.target = .pageSelect →
     (x.reading = false → x.dataBytes = 0 → ∀ p : Fin 4, b.toNat = p.val →
       exec (.pageSelectWrite b) s = .next { s with desc := { s.desc with
         page := p, sda := .ack, transaction := some { x with dataBytes := 1 } } })
     ∧ (x.reading = false → x.dataBytes ≠ 0 ∨ 4 ≤ b.toNat →
       exec (.pageSelectWrite b) s = .next { s with desc := { s.desc with
         sda := .nack, transaction := some { x with dataBytes := x.dataBytes + 1 } } })
     ∧ (x.reading = true → x.released = false →
       exec (.pageSelectRead ack) s = .next { s with desc := { s.desc with
         sda := .data (BitVec.ofNat 8 s.desc.page.val)
         transaction := some { x with dataBytes := x.dataBytes + 1, sent := true, released := !ack } } })
     ∧ (x.reading = true → x.released = true →
       exec (.pageSelectRead ack) s = .next { s with desc := { s.desc with sda := .released } }))
  ∧ (∀ (s : State) (x : Transaction) (b : Byte) (ack : Bool), s.desc.bus = .nothing → s.desc.transaction = some x →
       x.target = .descriptor →
       (x.reading = false → x.dataBytes = 0 →
         exec (.readOffsetWrite b) s = .next { s with desc := { s.desc with
           readOffset := b, sda := .ack, transaction := some { x with dataBytes := 1 } } })
       ∧ (x.reading = false → x.dataBytes ≠ 0 →
         exec (.readOffsetWrite b) s = .next { s with desc := { s.desc with
           sda := .nack, transaction := some { x with dataBytes := x.dataBytes + 1 } } })
       ∧ (x.reading = true → x.released = false →
         exec (.descriptorReadByte ack) s = .next { s with desc := { s.desc with
           sda := .data (if (256 * s.desc.page.val + s.desc.readOffset.toNat) / 128 < s.desc.published then
               Memory.read s.desc.store (256 * s.desc.page.val + s.desc.readOffset.toNat) else 0xFF)
           readOffset := s.desc.readOffset + 1
           transaction := some { x with dataBytes := x.dataBytes + 1, sent := true, released := !ack } } })
       ∧ (x.reading = true → x.released = true →
         exec (.descriptorReadByte ack) s = .next { s with desc := { s.desc with sda := .released } }))

/-- A stop condition and the stall timeout end the transaction; only the stop counts SIDEBAND_READS, and only when
data was sent; a stop with no transaction has no effect (R124, R125). The deferred request is then taken: DESC_OPEN
leaves PUBLISHED for EDITING and is answered (R113), RESET leaves it for CLEARING and waits on (R128). That an address
byte awaited after a repeated start is awaited no more is the model's choice (log 33). -/
def Obligations.TransactionEndsAndDeferredRequest : Prop :=
  (∀ s : State, s.desc.transaction = none → exec .stopCondition s = .next (s.hostAfter s))
  ∧ ∀ (s : State) (x : Transaction), s.desc.transaction = some x →
    let ended : Desc := { s.desc with bus := .nothing, transaction := none, sda := .released }
    let left : Desc := { ended with readyLow := s.time, page := 0, readOffset := 0, deferred := .none }
    let cleared : Desc := { left with
      state := .clearing, holdDownEnd := none, passLatest := some (s.clock + 1000000) }
    let counted := if x.sent then s.counters.set 21 (s.counters[(21 : Fin 23)] + 1) else s.counters
    let stalled := x.stallMs * 1000 ≤ s.time.since x.start
    (s.desc.deferred = .none →
      exec .stopCondition s = .next (s.hostAfter { s with desc := ended, counters := counted })
      ∧ (stalled → exec .stallTimeout s = .next (s.hostAfter { s with desc := ended })))
    ∧ (∀ r rest, s.desc.deferred = .descOpen → s.link.requests = r :: rest →
      let link : HostLink := { s.link with
        requests := rest, executing := false, slot := some ⟨responseKind r.kind, r.tag, [0, 5, 1]⟩ }
      exec .stopCondition s = .next (s.hostAfter { s with
        desc := { left with state := .editing }, counters := counted, link := link })
      ∧ (stalled → exec .stallTimeout s = .next (s.hostAfter { s with
        desc := { left with state := .editing }, link := link })))
    ∧ (s.desc.deferred = .reset →
      exec .stopCondition s = .next (s.hostAfter { s with desc := cleared, counters := counted })
      ∧ (stalled → exec .stallTimeout s = .next (s.hostAfter { s with desc := cleared })))

/-! ### The wake log -/

/-- WAKELOG_TAKE (R102): the oldest record leaves, its capture's buffer becomes FREE; an empty log is NOT_FOUND.
CAPTURE_GET (R103): the two halves of a capture; a free slot is NOT_FOUND, a slot or half past 1 BAD_ARGUMENT. -/
def Obligations.WakelogTakeAndCaptureGet : Prop :=
  (∀ (s : State) (tag : Byte), HostReady s →
     (s.wlog.records = [] → exec (.wakelogTake tag []) s = .next (s.answered 0x95 tag [5, 0]))
     ∧ (∀ r rest, s.wlog.records = r :: rest → r.capture = none →
       exec (.wakelogTake tag []) s = .next ({ s with wlog := { s.wlog with records := rest } }.answered 0x95 tag
         ([0, BitVec.ofNat 8 rest.length] ++ r.bytes)))
     ∧ ∀ r rest c b, s.wlog.records = r :: rest → r.capture = some c → s.wlog.slots[c.slot] = some b →
       exec (.wakelogTake tag []) s = .next ({ s with
         wlog := { s.wlog with records := rest, slots := s.wlog.slots.set c.slot none }
         pool := s.pool.set b { s.pool[b] with owner := .free } }.answered 0x95 tag
           ([0, BitVec.ofNat 8 rest.length] ++ r.bytes)))
  ∧ (∀ (s : State) (tag slot half : Byte), HostReady s →
       (1 < slot.toNat ∨ 1 < half.toNat →
         exec (.captureGet tag [slot, half]) s = .next (s.answered 0x96 tag [3]))
       ∧ (∀ k : Fin 2, slot.toNat = k.val → half.toNat ≤ 1 → s.wlog.slots[k] = none →
         exec (.captureGet tag [slot, half]) s = .next (s.answered 0x96 tag [5]))
       ∧ ∀ (k : Fin 2) (b : Fin 10) (r : WakeRecord) (n : Nat) (before after : List WakeRecord),
         slot.toNat = k.val → half.toNat ≤ 1 → s.wlog.slots[k] = some b →
         s.wlog.records = before ++ r :: after → r.capture = some ⟨k, n⟩ →
         (∀ x ∈ before, ∀ c, x.capture = some c → c.slot ≠ k) →
         let bytes := if half.toNat = 0 then s.pool[b].bytes.take 128 else (s.pool[b].bytes.drop 128).take 128
         exec (.captureGet tag [slot, half]) s = .next (s.answered 0x96 tag
           ([0, slot, half] ++ bytesBE 4 r.seq.toNat ++ bytesBE 2 n ++ bytesBE 2 s.pool[b].bytes.length
             ++ [BitVec.ofNat 8 bytes.length] ++ bytes)))

/-- Which causes their settings allow (R95, R141); a cause not allowed, or outside the proxy states, is dropped (R96);
one taken adds a record at the tail with the next sequence number, the time base and coalesced 0, and wakes PROXY (R9,
R97, R100). A FILTER cause with a free capture slot makes the walked buffer CAPTURED in the lowest one, and the record
names the slot and the received length (R98). R99, R100: with 8 records, or no sequence number left, a cause is
counted in the newest record, stopping at 255, LOG_FULL is raised, and PRC is still told; with the log empty and no
number left, LOG_FULL and PRC alone. -/
def Obligations.WakeCauseAddsOrCoalesces : Prop :=
  (∀ (s : State) (o : Offer),
     (s.causeAllowed o = true ↔ (o.cause = .linkDown → s.settings.wakeOnLinkDown = 1)
       ∧ (o.cause = .linkUp → o.first = false ∧ s.settings.wakeOnLinkUp = 1))
     ∧ (s.causeAllowed o = false ∨ s.prc.presence.isProxy = false → s.takeCause o = s)
     ∧ ∀ q, s.causeAllowed o = true → s.prc.presence.isProxy = true → s.wlog.nextSeq = some q →
       s.wlog.records.length < 8 →
       let after := if q = 0xFFFFFFFF then none else some (q + 1)
       let woken : Prc := if s.prc.presence = .proxy then { s.prc with
           presence := .waking, escalations := 0
           wakeAckTimer := some (s.clock + s.settings.wakeAckTimeoutMs * 1000000) } else s.prc
       ((o.frame = none ∨ (∀ k : Fin 2, s.wlog.slots[k] ≠ none) → s.takeCause o = { s with
           wlog := { s.wlog with
             records := s.wlog.records ++ [⟨q, s.time, o.cause, o.detail, none, 0⟩], nextSeq := after }
           prc := woken })
         ∧ ∀ (k : Fin 2) (b : Fin 10) (n : Nat), o.frame = some (b, n) → s.wlog.slots[k] = none →
           (∀ j : Fin 2, j < k → s.wlog.slots[j] ≠ none) → s.takeCause o = { s with
             pool := s.pool.set b { s.pool[b] with owner := .captured }
             wlog := { s.wlog with
               records := s.wlog.records ++ [⟨q, s.time, o.cause, o.detail, some ⟨k, n⟩, 0⟩]
               slots := s.wlog.slots.set k (some b), nextSeq := after }
             prc := woken }))
  ∧ (∀ (s : State) (o : Offer), s.causeAllowed o = true → s.prc.presence.isProxy = true →
       let woken : Prc := if s.prc.presence = .proxy then { s.prc with
           presence := .waking, escalations := 0
           wakeAckTimer := some (s.clock + s.settings.wakeAckTimeoutMs * 1000000) } else s.prc
       (∀ (older : List WakeRecord) (newest : WakeRecord), s.wlog.records = older ++ [newest] →
         older.length = 7 ∨ s.wlog.nextSeq = none →
         s.takeCause o = { s with
           wlog := { s.wlog with records := older ++ [{ newest with
             coalesced := if newest.coalesced < 255 then newest.coalesced + 1 else 255 }] }
           events := s.events.raise .logFull s.time
           prc := woken })
       ∧ (s.wlog.records = [] → s.wlog.nextSeq = none →
         s.takeCause o = { s with events := s.events.raise .logFull s.time, prc := woken }))

/-! ### Alarm timers, link and load -/

/-- ALARM_SET, ALARM_STOP and ALARM_GET (R167, R168, R169). The expiry of a RUNNING timer: SPENT or reloaded, counted,
its flag raised, its cause offered (R166). That a RUNNING timer stands at remaining 0 from its last tick to its expiry,
where ALARM_STOP answers 0 and ALARM_GET 1, is the model's reading (log 26). -/
def Obligations.AlarmRequestsAndExpiry : Prop :=
  (∀ (s : State) (tag n : Byte), HostReady s →
     (∀ (k : Fin 4) (i3 i2 i1 i0 p : Byte), n.toNat = k.val → ofBytesBE [i3, i2, i1, i0] ≠ 0 → p.toNat ≤ 1 →
       exec (.alarmSet tag [n, i3, i2, i1, i0, p]) s = .next ({ s with alarms := (s.alarms.set k
         ⟨.running (ofBytesBE [i3, i2, i1, i0]), i3 ++ i2 ++ i1 ++ i0, p == 1, s.time, s.time + 1000, 0⟩) }.answered
           0x9C tag [0, n, s.alarms[k].state.code]))
     ∧ (∀ (i3 i2 i1 i0 p : Byte), 3 < n.toNat ∨ ofBytesBE [i3, i2, i1, i0] = 0 ∨ 1 < p.toNat →
       exec (.alarmSet tag [n, i3, i2, i1, i0, p]) s = .next (s.answered 0x9C tag [3]))
     ∧ (∀ k : Fin 4, n.toNat = k.val →
       exec (.alarmStop tag [n]) s = .next
         ({ s with alarms := s.alarms.set k { s.alarms[k] with state := .idle } }.answered 0x9D tag
           ([0, n, s.alarms[k].state.code] ++ match s.alarms[k].state with
             | .running r => 1 :: bytesBE 4 r
             | _ => 0 :: bytesBE 4 0))
       ∧ exec (.alarmGet tag [n]) s = .next (s.answered 0x9E tag
           ([0, n, s.alarms[k].state.code] ++ bytesBE 4 s.alarms[k].initial.toNat
             ++ [if s.alarms[k].periodic then 1 else 0]
             ++ (match s.alarms[k].state with
               | .running r => 1 :: bytesBE 4 (max 1 r)
               | .spent => [1, 0xFF, 0xFF, 0xFF, 0xFF]
               | .idle => 0 :: bytesBE 4 0)
             ++ bytesBE 2 s.alarms[k].expiries)))
     ∧ (3 < n.toNat → exec (.alarmStop tag [n]) s = .next (s.answered 0x9D tag [3])
       ∧ exec (.alarmGet tag [n]) s = .next (s.answered 0x9E tag [3])))
  ∧ (∀ (s : State) (n : Fin 4), s.alarms[n].state = .running 0 →
       exec (.alarmExpiry n) s = .next (s.hostAfter (({ s with
         alarms := s.alarms.set n { s.alarms[n] with
           state := if s.alarms[n].periodic then .running s.alarms[n].initial.toNat else .spent
           expiries := stopAt 65535 s.alarms[n].expiries }
         events := s.events.raise (.alarm n) s.time } : State).takeCause
           ⟨.alarm, some (BitVec.ofNat 16 n.val), false, none⟩)))

/-- PHY_LINK and the settle end (R135, R136, R137): a rise in DOWN with a usable latest measurement begins SETTLING;
any other rise moves the level only; a fall ends SETTLING; the settle end enters UP with LINK_UP raised and offered. -/
def Obligations.LinkSettlesAndEntersUp : Prop :=
  ∀ (s : State),
    (∀ (m : Measured) (c : RateClass), s.lmon.link = .down → s.lmon.latest = some m → classOf m.value = some c →
      exec .phyLinkRise s = .next { s with
        pins := { s.pins with phyLink := true }
        lmon := { s.lmon with
          link := .settling c (s.time + BitVec.ofNat 48 (s.settings.settleMs * 1000)) } })
    ∧ (s.lmon.link ≠ .down ∨ s.lmon.latest.bind (fun m => classOf m.value) = none →
      exec .phyLinkRise s = .next { s with pins := { s.pins with phyLink := true } })
    ∧ (∀ c e, s.lmon.link = .settling c e →
      exec .phyLinkFall s = .next (s.hostAfter { s with
        pins := { s.pins with phyLink := false }, lmon := { s.lmon with link := .down } })
      ∧ (e = s.time → exec .settleEnd s = .next (s.hostAfter (({ s with
          lmon := { s.lmon with
            link := .up c, reference := s.lmon.latest.map Measured.value, quarantineEnd := none
            lastRecenter := none, firstUp := false }
          events := s.events.raise .linkUp s.time } : State).takeCause
            ⟨.linkUp, none, s.lmon.firstUp, none⟩))))
    ∧ (s.lmon.link = .down → exec .phyLinkFall s = .next (s.hostAfter { s with
        pins := { s.pins with phyLink := false } }))

/-- The link leaving UP (R138, R139, R86, R28, R17): quarantine and last recenter end, LINK_DOWN is raised and its
cause offered under the presence state the event finds (the model's order, log 12), the frame in reception is cut, the
whole queue is flushed and the transmitter is IDLE with no gap. In ENTERING a cut with HOST_TX_ACTIVE low ends the
wait; in LEAVING the cut of its transmission ends LEAVING. A fall of PHY_LINK in UP is this with destination DOWN. -/
def Obligations.LinkLeavesUp : Prop :=
  ∀ (s : State) (dest : Link),
    let bare : Lmon := { s.lmon with link := dest, quarantineEnd := none, lastRecenter := none }
    let told : State := ({ s with lmon := bare, events := s.events.raise .linkDown s.time } : State).takeCause
      ⟨.linkDown, none, false, none⟩
    let t := s.leaveUp dest
    (∀ c, s.lmon.link = .up c → exec .phyLinkFall s =
      .next (s.hostAfter (({ s with pins := { s.pins with phyLink := false } } : State).leaveUp .down)))
    ∧ (t.lmon = bare ∧ t.txq = ⟨[], .idle⟩ ∧ t.wlog = told.wlog ∧ t.events = told.events)
    ∧ (t.rxp = (if s.rxp.inReception then .ignoring else s.rxp)
      ∧ t.counters[(7 : Fin 23)] = s.counters[(7 : Fin 23)] + (if s.rxp.inReception then 1 else 0)
      ∧ t.counters[(17 : Fin 23)] = s.counters[(17 : Fin 23)] + BitVec.ofNat 32 s.txq.queue.length
      ∧ ∀ p : Fin 23, p ≠ 7 → p ≠ 17 → t.counters[p] = s.counters[p])
    ∧ (∀ i : Fin 10, t.pool[i].bytes = s.pool[i].bytes
      ∧ ((i ∈ s.txq.queue.map QueuedReply.buf ∨ ∃ f, s.rxp = .storing i f) → t.pool[i].owner = .free)
      ∧ (¬(i ∈ s.txq.queue.map QueuedReply.buf ∨ ∃ f, s.rxp = .storing i f) → t.pool[i].owner = s.pool[i].owner))
    ∧ (s.prc.presence = .passive ∨ s.prc.presence.isProxy = true → t.prc = told.prc ∧ t.link = s.link)
    ∧ (s.prc.presence = .entering → s.pins.hostTxActive = true ∨ s.rxp.inReception = false →
      t.prc = s.prc ∧ t.link = s.link)
    ∧ (∀ r rest, s.prc.presence = .entering → s.pins.hostTxActive = false → s.rxp.inReception = true →
      s.link.requests = r :: rest →
      t.prc = { s.prc with
        presence := .proxy, handoverDeadline := none, wakeAckTimer := none, escalations := 0
        pendingResponse := .none }
      ∧ t.link = { s.link with
        requests := rest, executing := false, slot := some ⟨responseKind r.kind, r.tag, [0, 0]⟩ })
    ∧ (∀ r rest, s.prc.presence = .leaving → s.phyTxen = true → s.link.requests = r :: rest →
      t.prc = { s.prc with presence := .passive, escalations := 0, pendingResponse := .none }
      ∧ t.link = { s.link with
        requests := rest, executing := false
        slot := some ⟨responseKind r.kind, r.tag, [0, 0, BitVec.ofNat 8 s.prc.escalations.val]⟩ })
    ∧ (t.filters = s.filters ∧ t.answers = s.answers ∧ t.templates = s.templates ∧ t.desc = s.desc
      ∧ t.shed = s.shed ∧ t.alarms = s.alarms ∧ t.settings = s.settings ∧ t.factory = s.factory
      ∧ t.pins = s.pins ∧ t.otp = s.otp ∧ t.time = s.time ∧ t.clock = s.clock)

/-- A measurement (R133, R134, R135, R136, R138, R142): cycles in 10 ms become units of 1/16 kHz with a cap, the class
is the band that holds them, and by the link state the measurement settles, keeps, restarts or ends the link. -/
def Obligations.MeasurementActsByLinkState : Prop :=
  (∀ cycles, measurementOf cycles = if cycles * 16 / 10 ≤ 4000000 then cycles * 16 / 10 else 4000000)
  ∧ (∀ m, (classOf m = some .r10 ↔ 38000 ≤ m ∧ m ≤ 42000) ∧ (classOf m = some .r100 ↔ 380000 ≤ m ∧ m ≤ 420000)
      ∧ (classOf m = some .r1000 ↔ 1900000 ≤ m ∧ m ≤ 2100000))
  ∧ ∀ (s : State) (cycles m : Nat), s.lmon.intervalEnd = s.time → m = measurementOf cycles →
    let measured : Lmon := { s.lmon with
      latest := some ⟨m, s.time⟩, intervalEnd := s.lmon.intervalEnd + BitVec.ofNat 48 10000 }
    let settle := s.time + BitVec.ofNat 48 (s.settings.settleMs * 1000)
    (∀ c, s.lmon.link = .down → s.pins.phyLink = true → classOf m = some c →
      exec (.measurement cycles) s = .next (s.hostAfter { s with lmon := { measured with link := .settling c settle } }))
    ∧ (s.lmon.link = .down → s.pins.phyLink = false ∨ classOf m = none →
      exec (.measurement cycles) s = .next (s.hostAfter { s with lmon := measured }))
    ∧ (∀ c e, s.lmon.link = .settling c e →
      (classOf m = none →
        exec (.measurement cycles) s = .next (s.hostAfter { s with lmon := { measured with link := .down } }))
      ∧ (classOf m = some c → exec (.measurement cycles) s = .next (s.hostAfter { s with lmon := measured }))
      ∧ ∀ d, classOf m = some d → d ≠ c → exec (.measurement cycles) s =
          .next (s.hostAfter { s with lmon := { measured with link := .settling d settle } }))
    ∧ (∀ c r, s.lmon.link = .up c → classOf m = some c → s.lmon.reference = some r →
      ((m - r) + (r - m)) * 1000 ≤ r * s.settings.rateTolerancePermille →
      exec (.measurement cycles) s = .next (s.hostAfter { s with lmon := measured }))
    ∧ (∀ c r, s.lmon.link = .up c → classOf m = some c → s.lmon.reference = some r →
      r * s.settings.rateTolerancePermille < ((m - r) + (r - m)) * 1000 →
      exec (.measurement cycles) s = .next (s.hostAfter { s with
        lmon := { measured with reference := some m }, events := s.events.raise .rateChanged s.time }))
    ∧ ∀ c, s.lmon.link = .up c → classOf m ≠ some c →
      exec (.measurement cycles) s = .next (s.hostAfter (({ s with lmon := measured } : State).leaveUp
        (match classOf m with
        | none => .down
        | some d => .settling d settle)))

/-- Recenters and the quarantine end (R143, R144, R145, R29). -/
def Obligations.RecenterAndQuarantine : Prop :=
  ∀ (s : State),
    let counted : Lmon := { s.lmon with recenters := s.lmon.recenters + 1, fill := 8 }
    let quarantine := s.time + BitVec.ofNat 48 (s.settings.quarantineMs * 1000)
    ((∀ c, s.lmon.link ≠ .up c) →
      exec .recenter s = .next (s.hostAfter { s with lmon := counted, rxp := s.rxp.damage }))
    ∧ (∀ c, s.lmon.link = .up c → s.lmon.quarantineEnd = none →
      (s.settings.quarantineEnable ≠ 1 ∨ s.lmon.lastRecenter = none
        ∨ ∃ t, s.lmon.lastRecenter = some t ∧ s.settings.recenterWindowMs * 1000 < (s.time - t).toNat) →
      exec .recenter s = .next (s.hostAfter { s with
        lmon := { counted with lastRecenter := some s.time }, rxp := s.rxp.damage }))
    ∧ (∀ c t, s.lmon.link = .up c → s.lmon.quarantineEnd = none → s.settings.quarantineEnable = 1 →
      s.lmon.lastRecenter = some t → (s.time - t).toNat ≤ s.settings.recenterWindowMs * 1000 →
      exec .recenter s = .next (s.hostAfter ({ s with
        lmon := { counted with lastRecenter := some s.time, quarantineEnd := some quarantine }
        events := s.events.raise .quarantine s.time } : State).cutAndReport))
    ∧ (∀ c e, s.lmon.link = .up c → s.lmon.quarantineEnd = some e →
      exec .recenter s = .next (s.hostAfter { s with
        lmon := { counted with
          lastRecenter := some s.time
          quarantineEnd := if s.settings.quarantineEnable = 1 then some quarantine else some e }
        rxp := s.rxp.damage }))
    ∧ (s.lmon.quarantineEnd = some s.time →
      exec .quarantineEnd s = .next { s with lmon := { s.lmon with quarantineEnd := none } })
    ∧ (∀ b f, Rxp.damage (.storing b f) = .storing b { f with damaged := true })
    ∧ (∀ f, Rxp.damage (.streaming f) = .streaming { f with damaged := true })
    ∧ (∀ f, Rxp.damage (.discarding f) = .discarding f) ∧ Rxp.damage .idle = .idle
    ∧ Rxp.damage .ignoring = .ignoring

/-- The window's end (R152, R155, R156): the lowest-numbered tier that triggers gives the level, none gives 0;
SHED_CHANGED rises on a change; counts 0, and the next window begins now with the setting's length. -/
def Obligations.WindowEndEvaluatesTiers : Prop :=
  ∀ (s : State) (level : Fin 4), s.shed.windowMs * 1000 ≤ (s.time - s.shed.windowStart).toNat →
    ((∀ k : Fin 4, ¬(s.settings.tiers[k].enabled = true
        ∧ s.settings.tiers[k].threshold ≤ s.shed.counts[s.settings.tiers[k].source])) ∧ level = 0
      ∨ ∃ k : Fin 4, (s.settings.tiers[k].enabled = true
          ∧ s.settings.tiers[k].threshold ≤ s.shed.counts[s.settings.tiers[k].source])
        ∧ (∀ j : Fin 4, j < k → ¬(s.settings.tiers[j].enabled = true
          ∧ s.settings.tiers[j].threshold ≤ s.shed.counts[s.settings.tiers[j].source]))
        ∧ level = s.settings.tiers[k].level) →
    exec .windowEnd s = .next (s.hostAfter { s with
      shed := ⟨s.time, s.settings.shedWindowMs, Vector.replicate 4 0, level⟩
      events := if level = s.shed.level then s.events else s.events.raise .shedChanged s.time })

/-! ### Reception, the walk, transmission -/

/-- The start of a frame (R24, R32, R33): DISCARDING with the link not ready; STORING in the lowest-numbered FREE
buffer; STREAMING with POOL_EXHAUSTED raised when none is FREE; its first byte is taken. A byte of a frame and
PHY_RXER (R25): the length counts to 65535, the check state advances, in STORING the byte is stored while fewer than
256 are; PHY_RXER sets the damage mark; in IDLE and IGNORING neither has an effect. That the fill is set to 8 at the
start of a frame is the model's choice (log 22): R143 gives 8 at the rise of PHY_RXDV, before the preamble. -/
def Obligations.FrameStartAndBytes : Prop :=
  (∀ (s : State) (b : Byte), s.rxp = .idle →
     let first : RxFrame := ⟨1, 0xFFFFFFFF, [b], false, false⟩
     (s.linkReady = false → exec (.frameStart b) s = .next (s.hostAfter { s with
       lmon := { s.lmon with fill := 8 }, rxp := .discarding first }))
     ∧ (∀ i : Fin 10, s.linkReady = true → s.pool[i].owner = .free → (∀ j : Fin 10, j < i → s.pool[j].owner ≠ .free) →
       exec (.frameStart b) s = .next (s.hostAfter { s with
         lmon := { s.lmon with fill := 8 }, rxp := .storing i first, pool := s.pool.set i ⟨.receiving, [b]⟩ }))
     ∧ (s.linkReady = true → (∀ i : Fin 10, s.pool[i].owner ≠ .free) →
       exec (.frameStart b) s = .next (s.hostAfter { s with
         lmon := { s.lmon with fill := 8 }, rxp := .streaming first
         events := s.events.raise .poolExhausted s.time })))
  ∧ (∀ (s : State) (b : Byte) (f : RxFrame),
       (∀ i : Fin 10, s.rxp = .storing i f →
         exec (.frameByte b) s = .next { s with
           rxp := .storing i (f.take b)
           pool := if s.pool[i].bytes.length < 256 then
               s.pool.set i { s.pool[i] with bytes := s.pool[i].bytes ++ [b] } else s.pool }
         ∧ exec .phyRxer s = .next { s with rxp := .storing i { f with damaged := true } })
       ∧ (s.rxp = .streaming f → exec (.frameByte b) s = .next { s with rxp := .streaming (f.take b) }
           ∧ exec .phyRxer s = .next { s with rxp := .streaming { f with damaged := true } })
       ∧ (s.rxp = .discarding f → exec (.frameByte b) s = .next { s with rxp := .discarding (f.take b) }
           ∧ exec .phyRxer s = .next { s with rxp := .discarding { f with damaged := true } })
       ∧ (s.rxp = .idle ∨ s.rxp = .ignoring → exec (.frameByte b) s = .next s ∧ exec .phyRxer s = .next s)
       ∧ (f.take b).received = stopAt 65535 f.received
       ∧ (f.take b).damaged = f.damaged)

/-- The check of R25: after the bytes of a frame it is good exactly when the last four are the check sequence of those
before them, and a frame of fewer than four bytes has no valid check. A term and a pattern (R42, R43, R44): each of
four positions agrees under its mask, an absent one only with mask 00h; a pattern matches when all its terms do. -/
def Obligations.FrameCheckAndPatterns : Prop :=
  (∀ bytes : List Byte, (bytes.foldl RxFrame.take RxFrame.atStart).checkGood = true ↔
     4 ≤ bytes.length
       ∧ bytes.drop (bytes.length - 4) = checkSequence (bytes.take (bytes.length - 4)))
  ∧ ((∀ (frame : List Byte) (p : Nat) (value mask : Byte),
       positionAgrees frame p value mask = true ↔
         (∃ b, frame[p]? = some b ∧ b &&& mask = value &&& mask) ∨ (frame.length ≤ p ∧ mask = 0))
     ∧ (∀ (t : Term) (frame : List Byte), t.matches frame = true ↔
         positionAgrees frame t.offset.toNat t.value.b0 t.mask.b0 = true
           ∧ positionAgrees frame (t.offset.toNat + 1) t.value.b1 t.mask.b1 = true
           ∧ positionAgrees frame (t.offset.toNat + 2) t.value.b2 t.mask.b2 = true
           ∧ positionAgrees frame (t.offset.toNat + 3) t.value.b3 t.mask.b3 = true)
     ∧ ∀ (p : List Term) (frame : List Byte), patternMatches p frame = true ↔ ∀ t ∈ p, t.matches frame = true)

/-- The end of a frame (R26, R27): one receive counter by the table, source 0 for a good frame, the buffer FREE, RXP
IDLE, the end reported to ENTERING's wait (R6); the fall after a cut counts nothing (R28). A frame in STORING
classified RX_GOOD in a proxy state is walked (R51). -/
def Obligations.FrameEndClassifiesOrWalks : Prop :=
  (∀ (s : State) (f : RxFrame) (partialByte : Bool),
     let long := s.settings.maxFrameBytes < f.received
     let bad := f.checkGood = false ∨ f.damaged = true ∨ partialByte = true
     let counted := fun (p : Fin 23) => s.counters.set p (s.counters[p] + 1)
     let loaded : Shed := { s.shed with counts := s.shed.counts.set 0 (stopAt 65535 s.shed.counts[(0 : Fin 4)]) }
     (s.rxp = .ignoring → exec (.frameEnd partialByte) s = .next (s.hostAfter { s with rxp := .idle }))
     ∧ (s.rxp = .discarding f →
         exec (.frameEnd partialByte) s = .next (s.hostAfter ({ s with rxp := .idle, counters := counted 7 } : State).testWait))
     ∧ (∀ (i : Fin 10) (stored : Bool), s.rxp = (if stored then .storing i f else .streaming f) →
         let pool := if stored then s.pool.set i { s.pool[i] with owner := .free } else s.pool
         (f.received < 64 → bad → exec (.frameEnd partialByte) s =
           .next (s.hostAfter ({ s with rxp := .idle, pool := pool, counters := counted 2 } : State).testWait))
         ∧ (f.received < 64 → ¬bad → exec (.frameEnd partialByte) s =
           .next (s.hostAfter ({ s with rxp := .idle, pool := pool, counters := counted 3 } : State).testWait))
         ∧ (64 ≤ f.received → long → bad → exec (.frameEnd partialByte) s =
           .next (s.hostAfter ({ s with rxp := .idle, pool := pool, counters := counted 5 } : State).testWait))
         ∧ (64 ≤ f.received → long → ¬bad → exec (.frameEnd partialByte) s =
           .next (s.hostAfter ({ s with rxp := .idle, pool := pool, counters := counted 4 } : State).testWait))
         ∧ (64 ≤ f.received → ¬long → bad → exec (.frameEnd partialByte) s =
           .next (s.hostAfter ({ s with rxp := .idle, pool := pool, counters := counted 1 } : State).testWait))
         ∧ (64 ≤ f.received → ¬long → ¬bad → (stored = true → s.prc.presence.isProxy = false) →
           exec (.frameEnd partialByte) s = .next (s.hostAfter ({ s with
             rxp := .idle, pool := pool, shed := loaded
             counters := counted (if stored then 0 else 6) } : State).testWait))))
  ∧ (∀ (s : State) (b : Fin 10) (f : RxFrame), s.prc.presence.isProxy = true → s.rxp = .storing b f →
       64 ≤ f.received → f.received ≤ s.settings.maxFrameBytes → f.checkGood = true → f.damaged = false →
       exec (.frameEnd false) s = .next (s.hostAfter (({ s with
         rxp := .idle
         counters := s.counters.set 0 (s.counters[(0 : Fin 23)] + 1)
         shed := { s.shed with counts := s.shed.counts.set 0 (stopAt 65535 s.shed.counts[(0 : Fin 4)]) } } : State).walk b f.received)))

/-- The walk by its deciding filter (R51..R55): the first record that matches decides and is hit; BLOCK counts
BLOCKED; WAKE and WAKE_ANSWER count WAKE_MATCHES and offer its FILTER cause, and WAKE_ANSWER walks the answer table
too, as a frame no filter decides does; at the end the buffer is FREE unless it has become a capture. -/
def Obligations.FirstMatchingFilterDecides : Prop :=
  ∀ (s : State) (b : Fin 10) (n : Nat),
    let frame := s.pool[b].bytes
    let disposed := fun t : State => if t.pool[b].owner = .receiving then
        { t with pool := t.pool.set b { t.pool[b] with owner := .free } } else t
    ((∀ r ∈ s.filters, patternMatches r.pattern frame = false) → s.walk b n = disposed (s.answerWalk frame false))
    ∧ ∀ (before after : List FilterRecord) (r : FilterRecord),
      s.filters = before ++ r :: after → patternMatches r.pattern frame = true →
      (∀ x ∈ before, patternMatches x.pattern frame = false) →
      let hit : State := { s with
        filters := before ++ { r with hits := stopAt 65535 r.hits } :: after
        shed := { s.shed with counts := s.shed.counts.set 1 (stopAt 65535 s.shed.counts[(1 : Fin 4)]) } }
      let caused : State := { hit with
          counters := s.counters.set 9 (s.counters[(9 : Fin 23)] + 1) }.takeCause
            ⟨.filter, some r.label, false, some (b, n)⟩
      (r.action = .block → s.walk b n =
        disposed { hit with counters := s.counters.set 8 (s.counters[(8 : Fin 23)] + 1) })
      ∧ (r.action = .wake → s.walk b n = disposed caused)
      ∧ (r.action = .wakeAnswer → s.walk b n = disposed (caused.answerWalk frame true))

/-- A frame no filter decides (R54, R55, R61..R67): with no matching entry UNMATCHED; else the first entry is hit and
its reply is refused by pacing, by shed class, for queue room or for want of a buffer, or is built and queued. -/
def Obligations.FirstMatchingEntryAnswers : Prop :=
  ∀ (s : State) (frame : List Byte),
    ((∀ (i : Fin 32) (e : AnswerEntry), s.answers[i] = some e → patternMatches e.pattern frame = false) →
      s.answerWalk frame false = { s with counters := s.counters.set 11 (s.counters[(11 : Fin 23)] + 1) }
      ∧ s.answerWalk frame true = s)
    ∧ ∀ (i : Fin 32) (e : AnswerEntry) (t : Template) (decided : Bool), s.answers[i] = some e →
      patternMatches e.pattern frame = true →
      (∀ (j : Fin 32) (x : AnswerEntry), j < i → s.answers[j] = some x → patternMatches x.pattern frame = false) →
      s.templates[e.template] = some t →
      let hit : AnswerEntry := { e with hits := stopAt 65535 e.hits }
      let matched : State := { s with
        answers := s.answers.set i (some hit)
        counters := s.counters.set 10 (s.counters[(10 : Fin 23)] + 1)
        shed := { s.shed with counts := s.shed.counts.set 2 (stopAt 65535 s.shed.counts[(2 : Fin 4)]) } }
      let paced := ∃ q, e.quietUntil = some q ∧ 1 ≤ (q - s.time).toNat ∧ (q - s.time).toNat ≤ e.pacing.toNat * 1000
      let dropped := match e.cls with
        | .essential => s.shed.level = 3
        | .routine => 2 ≤ s.shed.level.val
        | .courtesy => 1 ≤ s.shed.level.val
      let counted := fun (p : Fin 23) => matched.counters.set p (matched.counters[p] + 1)
      (paced → s.answerWalk frame decided = { matched with counters := counted 13 })
      ∧ (¬paced → dropped → s.answerWalk frame decided = { matched with counters := counted 14 })
      ∧ (¬paced → ¬dropped → 8 ≤ s.txq.queue.length → s.answerWalk frame decided = { matched with
          counters := counted 15, events := s.events.raise .queueOverflow s.time })
      ∧ (¬paced → ¬dropped → s.txq.queue.length < 8 → (∀ b : Fin 10, s.pool[b].owner ≠ .free) →
          s.answerWalk frame decided = { matched with
            counters := counted 16, events := s.events.raise .poolExhausted s.time })
      ∧ ∀ b : Fin 10, ¬paced → ¬dropped → s.txq.queue.length < 8 → s.pool[b].owner = .free →
          (∀ j : Fin 10, j < b → s.pool[j].owner ≠ .free) →
          s.answerWalk frame decided = { matched with
            pool := s.pool.set b ⟨.queued, t.build frame s.factory.station.toList⟩
            txq := { s.txq with queue := s.txq.queue ++ [⟨b, t.body.length⟩] }
            answers := s.answers.set i (some { hit with
              quietUntil := some (s.time + BitVec.ofNat 48 (e.pacing.toNat * 1000)) }) }

/-- The building of a reply (R70): with no operation the body as it is; the last operation's bytes stand at its
destination, a FRAME operation giving 00h where the frame holds no byte, and every other position is as the operations
before it left it. -/
def Obligations.ReplyBuildAppliesOperations : Prop :=
  ∀ (body frame station : List Byte) (ops : List CopyOp) (o : CopyOp) (p : Nat),
    (⟨body, []⟩ : Template).build frame station = body
    ∧ (station.length = 6 → ((⟨body, ops⟩ : Template).build frame station).length = body.length →
      o.dstOffset.toNat + o.width ≤ body.length → p < body.length →
      ((⟨body, ops ++ [o]⟩ : Template).build frame station)[p]? =
        if o.dstOffset.toNat ≤ p ∧ p < o.dstOffset.toNat + o.width then
          match o.source with
          | .frame => some ((frame[o.srcOffset.toNat + (p - o.dstOffset.toNat)]?).getD 0)
          | .station => station[p - o.dstOffset.toNat]?
        else ((⟨body, ops⟩ : Template).build frame station)[p]?)

/-- The start of a transmission (R82, R83): from IDLE with the link UP, the line the part's and a reply waiting, the
head's line bytes, sent in one byte time each: 0.8, 0.08 or 0.008 µs by the rate class (R83, R134). Its end, whenever
it is reported (R85, R84, R16, log 6): the head leaves, its buffer is FREE, ANSWERS_SENT and source 3 rise, the gap of
12 byte times begins; in LEAVING a frame in reception is cut and LEAVING ends. The gap's end makes the transmitter
IDLE. -/
def Obligations.TransmissionStartEndAndGap : Prop :=
  (RateClass.byteNs .r10 = 800 ∧ RateClass.byteNs .r100 = 80 ∧ RateClass.byteNs .r1000 = 8)
  ∧ (∀ (s : State) (c : RateClass) (r : QueuedReply) (rest : List QueuedReply), s.txq.transmitter = .idle →
     s.lmon.link = .up c → s.lineSelPart = true → s.txq.queue = r :: rest →
     ∃ reply padding line : List Byte, reply = s.pool[r.buf].bytes.take r.len
       ∧ padding = List.replicate (60 - reply.length) 0
       ∧ line = [0x55, 0x55, 0x55, 0x55, 0x55, 0x55, 0x55, 0xD5] ++ reply ++ padding
           ++ checkSequence (reply ++ padding)
       ∧ line.length = 12 + max 60 reply.length
       ∧ exec .transmissionStart s = .next { s with txq := { s.txq with
           transmitter := .sending line (s.clock + line.length * c.byteNs) } })
  ∧ ((∀ (s : State) (c : RateClass) (r : QueuedReply) (rest : List QueuedReply) (line : List Byte) (d : Nat),
       s.txq.transmitter = .sending line d → s.lmon.link = .up c → s.txq.queue = r :: rest →
       let sent : State := { s with
         txq := ⟨rest, .gap (s.clock + 12 * c.byteNs)⟩
         pool := s.pool.set r.buf { s.pool[r.buf] with owner := .free }
         counters := s.counters.set 12 (s.counters[(12 : Fin 23)] + 1)
         shed := { s.shed with counts := s.shed.counts.set 3 (stopAt 65535 s.shed.counts[(3 : Fin 4)]) } }
       (s.prc.presence ≠ .leaving → exec .transmissionEnd s = .next (s.hostAfter sent))
       ∧ ∀ (m : Message) (waiting : List Message), s.prc.presence = .leaving →
           s.link.requests = m :: waiting →
           exec .transmissionEnd s = .next (s.hostAfter { sent.cutFrame with
             prc := { s.prc with presence := .passive, escalations := 0, pendingResponse := .none }
             link := { s.link with
               requests := waiting, executing := false, slot := some ⟨responseKind m.kind, m.tag, [0, 0, BitVec.ofNat 8 s.prc.escalations.val]⟩ } }))
     ∧ ∀ (s : State) (t : Nat), s.txq.transmitter = .gap t → t ≤ s.clock →
         exec .gapEnd s = .next { s with txq := { s.txq with transmitter := .idle } })

/-- A timed row taken before its time, or with nothing to end, changes nothing of its own: HLI alone may go on
(DEDUCED from R162, log 3). -/
def Obligations.TimedRowsWaitForTheirTime : Prop :=
  ∀ s : State,
    ((∀ d, s.prc.handoverDeadline = some d → s.clock < d) → exec .handoverDeadlineExpiry s = .next (s.hostAfter s))
    ∧ ((∀ d, s.prc.wakeAckTimer = some d → s.clock < d) → exec .wakeAckTimerExpiry s = .next (s.hostAfter s))
    ∧ ((∀ d, s.prc.pulseEnd = some d → s.clock < d) → exec .escalationPulseEnd s = .next s)
    ∧ ((∀ d, s.txq.transmitter = .gap d → s.clock < d) → exec .gapEnd s = .next s)
    ∧ ((s.txq.queue = [] ∨ s.lineSelPart = false ∨ s.txq.transmitter ≠ .idle ∨ ∀ c, s.lmon.link ≠ .up c) →
      exec .transmissionStart s = .next s)
    ∧ (s.phyTxen = false → exec .transmissionEnd s = .next (s.hostAfter s))
    ∧ (s.desc.state ≠ .summing → exec .checksumPassEnd s = .next (s.hostAfter s))
    ∧ (s.desc.state ≠ .clearing → exec .clearingPassEnd s = .next (s.hostAfter s))
    ∧ (s.desc.state ≠ .verifying → exec .verifyPassEnd s = .next (s.hostAfter s))
    ∧ (s.desc.holdDownEnd ≠ some s.time → exec .holdDownEnd s = .next s)
    ∧ ((∀ x, s.desc.transaction = some x → s.time.since x.start < x.stallMs * 1000) →
      exec .stallTimeout s = .next (s.hostAfter s))
    ∧ ((∀ c, s.lmon.link ≠ .settling c s.time) → exec .settleEnd s = .next (s.hostAfter s))
    ∧ (s.lmon.quarantineEnd ≠ some s.time → exec .quarantineEnd s = .next s)
    ∧ (∀ cycles, s.lmon.intervalEnd ≠ s.time → exec (.measurement cycles) s = .next (s.hostAfter s))
    ∧ (s.time.since s.shed.windowStart < s.shed.windowMs * 1000 → exec .windowEnd s = .next (s.hostAfter s))
    ∧ (∀ n : Fin 4, s.alarms[n].state ≠ .running 0 → exec (.alarmExpiry n) s = .next (s.hostAfter s))
    ∧ ((∀ last limit, (s.link.assembler = .length last limit
        ∨ ∃ len taken, s.link.assembler = .gather len taken last limit) → s.clock < last + limit) →
      exec .gapTimeout s = .next (s.hostAfter s))

/-! ### What every step keeps -/

/-- Every step keeps the store in canonical form, the collections within their capacities, every entry's template
defined and the log's sequence numbers rising (R45, R58, R80, R93, R177). -/
def Obligations.StepKeepsTables : Prop :=
  ∀ (s t : State), step s = .next t →
    (StoreCanonical s → StoreCanonical t) ∧ (WithinCapacity s → WithinCapacity t)
      ∧ (EntriesNameTemplates s → EntriesNameTemplates t) ∧ (SequencesRise s → SequencesRise t)

/-- Every step keeps the settings in range, the notices those of set and masked flags, quarantine within UP, and a
request executing only while the queue holds one (R132, R178, R182, R187); every defined template fitting and every
buffer within 256 bytes (R31, R68, R70); the descriptor's items in agreement with its state and the store inside 1024
positions (R107). -/
def Obligations.StepKeepsHostItems : Prop :=
  ∀ (s t : State), step s = .next t →
    (SettingsInRange s → SettingsInRange t) ∧ (NoticesOfSetFlags s → NoticesOfSetFlags t)
      ∧ (LinkAgrees s → LinkAgrees t) ∧ (ExecutingHasRequest s → ExecutingHasRequest t)
      ∧ (BytesFit s → BytesFit t) ∧ (DescAgrees s → DescAgrees t)

/-- Every step keeps PRC's timers in agreement with its state, and with them the transmit queue (R1, R10, R13, R81,
R90). -/
def Obligations.StepKeepsPresence : Prop :=
  ∀ (s t : State), step s = .next t → PrcAgrees s ∧ TransmitAgrees s → PrcAgrees t ∧ TransmitAgrees t

/-- Every step keeps each buffer with exactly the holder its owner state names (R31, R34, R98): no buffer is lost and
none is held twice. -/
def Obligations.StepKeepsPoolAccounted : Prop :=
  ∀ (s t : State), step s = .next t → PoolAccounted s → PoolAccounted t
end

