-- ==== Sys2Proof/Laws/State.lean ====
section
/-! SUPPORT. What each shared operation leaves as it was: one lemma per operation, one equation per field, all @[simp],
so that no later proof unfolds an operation to read a field it does not touch. -/

namespace Sys2Proof.Machine

@[simp] theorem State.raise_keeps (s : State) (f : EventFlag) :
    (s.raise f).pins = s.pins ∧ (s.raise f).otp = s.otp ∧ (s.raise f).time = s.time ∧ (s.raise f).clock = s.clock ∧
      (s.raise f).prc = s.prc ∧ (s.raise f).rxp = s.rxp ∧ (s.raise f).pool = s.pool ∧
      (s.raise f).filters = s.filters ∧ (s.raise f).answers = s.answers ∧ (s.raise f).templates = s.templates ∧
      (s.raise f).txq = s.txq ∧ (s.raise f).wlog = s.wlog ∧ (s.raise f).desc = s.desc ∧ (s.raise f).lmon = s.lmon ∧
      (s.raise f).shed = s.shed ∧ (s.raise f).alarms = s.alarms ∧ (s.raise f).link = s.link ∧
      (s.raise f).settings = s.settings ∧ (s.raise f).factory = s.factory ∧ (s.raise f).counters = s.counters ∧
      (s.raise f).free = s.free ∧ (s.raise f).pending = s.pending :=
  ⟨rfl, rfl, rfl, rfl, rfl, rfl, rfl, rfl, rfl, rfl, rfl, rfl, rfl, rfl, rfl, rfl, rfl, rfl, rfl, rfl, rfl, rfl⟩

@[simp] theorem State.count_keeps (s : State) (c : Counter) :
    (s.count c).pins = s.pins ∧ (s.count c).otp = s.otp ∧ (s.count c).time = s.time ∧ (s.count c).clock = s.clock ∧
      (s.count c).prc = s.prc ∧ (s.count c).rxp = s.rxp ∧ (s.count c).pool = s.pool ∧
      (s.count c).filters = s.filters ∧ (s.count c).answers = s.answers ∧ (s.count c).templates = s.templates ∧
      (s.count c).txq = s.txq ∧ (s.count c).wlog = s.wlog ∧ (s.count c).desc = s.desc ∧ (s.count c).lmon = s.lmon ∧
      (s.count c).shed = s.shed ∧ (s.count c).alarms = s.alarms ∧ (s.count c).link = s.link ∧
      (s.count c).events = s.events ∧ (s.count c).settings = s.settings ∧ (s.count c).factory = s.factory ∧
      (s.count c).free = s.free ∧ (s.count c).pending = s.pending :=
  ⟨rfl, rfl, rfl, rfl, rfl, rfl, rfl, rfl, rfl, rfl, rfl, rfl, rfl, rfl, rfl, rfl, rfl, rfl, rfl, rfl, rfl, rfl⟩

@[simp] theorem State.setBuffer_keeps (s : State) (i : Fin 10) (b : Buffer) :
    (s.setBuffer i b).pins = s.pins ∧ (s.setBuffer i b).otp = s.otp ∧ (s.setBuffer i b).time = s.time ∧
      (s.setBuffer i b).clock = s.clock ∧ (s.setBuffer i b).prc = s.prc ∧ (s.setBuffer i b).rxp = s.rxp ∧
      (s.setBuffer i b).filters = s.filters ∧ (s.setBuffer i b).answers = s.answers ∧
      (s.setBuffer i b).templates = s.templates ∧ (s.setBuffer i b).txq = s.txq ∧ (s.setBuffer i b).wlog = s.wlog ∧
      (s.setBuffer i b).desc = s.desc ∧ (s.setBuffer i b).lmon = s.lmon ∧ (s.setBuffer i b).shed = s.shed ∧
      (s.setBuffer i b).alarms = s.alarms ∧ (s.setBuffer i b).link = s.link ∧ (s.setBuffer i b).events = s.events ∧
      (s.setBuffer i b).settings = s.settings ∧ (s.setBuffer i b).factory = s.factory ∧
      (s.setBuffer i b).counters = s.counters ∧ (s.setBuffer i b).free = s.free ∧
      (s.setBuffer i b).pending = s.pending :=
  ⟨rfl, rfl, rfl, rfl, rfl, rfl, rfl, rfl, rfl, rfl, rfl, rfl, rfl, rfl, rfl, rfl, rfl, rfl, rfl, rfl, rfl, rfl⟩

@[simp] theorem State.freeBuffer_keeps (s : State) (i : Fin 10) :
    (s.freeBuffer i).pins = s.pins ∧ (s.freeBuffer i).otp = s.otp ∧ (s.freeBuffer i).time = s.time ∧
      (s.freeBuffer i).clock = s.clock ∧ (s.freeBuffer i).prc = s.prc ∧ (s.freeBuffer i).rxp = s.rxp ∧
      (s.freeBuffer i).filters = s.filters ∧ (s.freeBuffer i).answers = s.answers ∧
      (s.freeBuffer i).templates = s.templates ∧ (s.freeBuffer i).txq = s.txq ∧ (s.freeBuffer i).wlog = s.wlog ∧
      (s.freeBuffer i).desc = s.desc ∧ (s.freeBuffer i).lmon = s.lmon ∧ (s.freeBuffer i).shed = s.shed ∧
      (s.freeBuffer i).alarms = s.alarms ∧ (s.freeBuffer i).link = s.link ∧ (s.freeBuffer i).events = s.events ∧
      (s.freeBuffer i).settings = s.settings ∧ (s.freeBuffer i).factory = s.factory ∧
      (s.freeBuffer i).counters = s.counters ∧ (s.freeBuffer i).free = s.free ∧ (s.freeBuffer i).pending = s.pending :=
  ⟨rfl, rfl, rfl, rfl, rfl, rfl, rfl, rfl, rfl, rfl, rfl, rfl, rfl, rfl, rfl, rfl, rfl, rfl, rfl, rfl, rfl, rfl⟩

@[simp] theorem State.report_keeps (s : State) (source : Fin 4) :
    (s.report source).pins = s.pins ∧ (s.report source).otp = s.otp ∧ (s.report source).time = s.time ∧
      (s.report source).clock = s.clock ∧ (s.report source).prc = s.prc ∧ (s.report source).rxp = s.rxp ∧
      (s.report source).pool = s.pool ∧ (s.report source).filters = s.filters ∧
      (s.report source).answers = s.answers ∧ (s.report source).templates = s.templates ∧
      (s.report source).txq = s.txq ∧ (s.report source).wlog = s.wlog ∧ (s.report source).desc = s.desc ∧
      (s.report source).lmon = s.lmon ∧ (s.report source).alarms = s.alarms ∧ (s.report source).link = s.link ∧
      (s.report source).events = s.events ∧ (s.report source).settings = s.settings ∧
      (s.report source).factory = s.factory ∧ (s.report source).counters = s.counters ∧
      (s.report source).free = s.free ∧ (s.report source).pending = s.pending :=
  ⟨rfl, rfl, rfl, rfl, rfl, rfl, rfl, rfl, rfl, rfl, rfl, rfl, rfl, rfl, rfl, rfl, rfl, rfl, rfl, rfl, rfl, rfl⟩

@[simp] theorem State.send_keeps (s : State) (m : Message) :
    (s.send m).pins = s.pins ∧ (s.send m).otp = s.otp ∧ (s.send m).time = s.time ∧ (s.send m).clock = s.clock ∧
      (s.send m).prc = s.prc ∧ (s.send m).rxp = s.rxp ∧ (s.send m).pool = s.pool ∧ (s.send m).filters = s.filters ∧
      (s.send m).answers = s.answers ∧ (s.send m).templates = s.templates ∧ (s.send m).txq = s.txq ∧
      (s.send m).wlog = s.wlog ∧ (s.send m).desc = s.desc ∧ (s.send m).lmon = s.lmon ∧ (s.send m).shed = s.shed ∧
      (s.send m).alarms = s.alarms ∧ (s.send m).events = s.events ∧ (s.send m).settings = s.settings ∧
      (s.send m).factory = s.factory ∧ (s.send m).counters = s.counters ∧ (s.send m).free = s.free ∧
      (s.send m).pending = s.pending :=
  ⟨rfl, rfl, rfl, rfl, rfl, rfl, rfl, rfl, rfl, rfl, rfl, rfl, rfl, rfl, rfl, rfl, rfl, rfl, rfl, rfl, rfl, rfl⟩

@[simp] theorem State.hunt_keeps (s : State) :
    s.hunt.pins = s.pins ∧ s.hunt.otp = s.otp ∧ s.hunt.time = s.time ∧ s.hunt.clock = s.clock ∧ s.hunt.prc = s.prc ∧
      s.hunt.rxp = s.rxp ∧ s.hunt.pool = s.pool ∧ s.hunt.filters = s.filters ∧ s.hunt.answers = s.answers ∧
      s.hunt.templates = s.templates ∧ s.hunt.txq = s.txq ∧ s.hunt.wlog = s.wlog ∧ s.hunt.desc = s.desc ∧
      s.hunt.lmon = s.lmon ∧ s.hunt.shed = s.shed ∧ s.hunt.alarms = s.alarms ∧ s.hunt.events = s.events ∧
      s.hunt.settings = s.settings ∧ s.hunt.factory = s.factory ∧ s.hunt.counters = s.counters ∧
      s.hunt.free = s.free ∧ s.hunt.pending = s.pending :=
  ⟨rfl, rfl, rfl, rfl, rfl, rfl, rfl, rfl, rfl, rfl, rfl, rfl, rfl, rfl, rfl, rfl, rfl, rfl, rfl, rfl, rfl, rfl⟩

@[simp] theorem State.drawFree_keeps (s : State) :
    s.drawFree.2.pins = s.pins ∧ s.drawFree.2.otp = s.otp ∧ s.drawFree.2.time = s.time ∧
      s.drawFree.2.clock = s.clock ∧ s.drawFree.2.prc = s.prc ∧ s.drawFree.2.rxp = s.rxp ∧
      s.drawFree.2.pool = s.pool ∧ s.drawFree.2.filters = s.filters ∧ s.drawFree.2.answers = s.answers ∧
      s.drawFree.2.templates = s.templates ∧ s.drawFree.2.txq = s.txq ∧ s.drawFree.2.wlog = s.wlog ∧
      s.drawFree.2.desc = s.desc ∧ s.drawFree.2.lmon = s.lmon ∧ s.drawFree.2.shed = s.shed ∧
      s.drawFree.2.alarms = s.alarms ∧ s.drawFree.2.link = s.link ∧ s.drawFree.2.events = s.events ∧
      s.drawFree.2.settings = s.settings ∧ s.drawFree.2.factory = s.factory ∧ s.drawFree.2.counters = s.counters ∧
      s.drawFree.2.pending = s.pending :=
  ⟨rfl, rfl, rfl, rfl, rfl, rfl, rfl, rfl, rfl, rfl, rfl, rfl, rfl, rfl, rfl, rfl, rfl, rfl, rfl, rfl, rfl, rfl⟩

@[simp] theorem State.clearCounters_keeps (s : State) :
    s.clearCounters.pins = s.pins ∧ s.clearCounters.otp = s.otp ∧ s.clearCounters.time = s.time ∧
      s.clearCounters.clock = s.clock ∧ s.clearCounters.prc = s.prc ∧ s.clearCounters.rxp = s.rxp ∧
      s.clearCounters.pool = s.pool ∧ s.clearCounters.filters = s.filters ∧ s.clearCounters.answers = s.answers ∧
      s.clearCounters.templates = s.templates ∧ s.clearCounters.txq = s.txq ∧ s.clearCounters.wlog = s.wlog ∧
      s.clearCounters.desc = s.desc ∧ s.clearCounters.lmon = s.lmon ∧ s.clearCounters.shed = s.shed ∧
      s.clearCounters.alarms = s.alarms ∧ s.clearCounters.link = s.link ∧ s.clearCounters.events = s.events ∧
      s.clearCounters.settings = s.settings ∧ s.clearCounters.factory = s.factory ∧ s.clearCounters.free = s.free ∧
      s.clearCounters.pending = s.pending :=
  ⟨rfl, rfl, rfl, rfl, rfl, rfl, rfl, rfl, rfl, rfl, rfl, rfl, rfl, rfl, rfl, rfl, rfl, rfl, rfl, rfl, rfl, rfl⟩

@[simp] theorem State.sendResponse_keeps (s : State) (m : Message) :
    (s.sendResponse m).pins = s.pins ∧ (s.sendResponse m).otp = s.otp ∧ (s.sendResponse m).time = s.time ∧
      (s.sendResponse m).clock = s.clock ∧ (s.sendResponse m).prc = s.prc ∧ (s.sendResponse m).rxp = s.rxp ∧
      (s.sendResponse m).pool = s.pool ∧ (s.sendResponse m).filters = s.filters ∧
      (s.sendResponse m).answers = s.answers ∧ (s.sendResponse m).templates = s.templates ∧
      (s.sendResponse m).txq = s.txq ∧ (s.sendResponse m).wlog = s.wlog ∧ (s.sendResponse m).desc = s.desc ∧
      (s.sendResponse m).lmon = s.lmon ∧ (s.sendResponse m).shed = s.shed ∧ (s.sendResponse m).alarms = s.alarms ∧
      (s.sendResponse m).events = s.events ∧ (s.sendResponse m).settings = s.settings ∧
      (s.sendResponse m).factory = s.factory ∧ (s.sendResponse m).counters = s.counters ∧
      (s.sendResponse m).free = s.free ∧ (s.sendResponse m).pending = s.pending :=
  ⟨rfl, rfl, rfl, rfl, rfl, rfl, rfl, rfl, rfl, rfl, rfl, rfl, rfl, rfl, rfl, rfl, rfl, rfl, rfl, rfl, rfl, rfl⟩

@[simp] theorem State.sendStarted_keeps (s : State) (cause : Byte) :
    (s.sendStarted cause).pins = s.pins ∧ (s.sendStarted cause).otp = s.otp ∧ (s.sendStarted cause).time = s.time ∧
      (s.sendStarted cause).clock = s.clock ∧ (s.sendStarted cause).prc = s.prc ∧ (s.sendStarted cause).rxp = s.rxp ∧
      (s.sendStarted cause).pool = s.pool ∧ (s.sendStarted cause).filters = s.filters ∧
      (s.sendStarted cause).answers = s.answers ∧ (s.sendStarted cause).templates = s.templates ∧
      (s.sendStarted cause).txq = s.txq ∧ (s.sendStarted cause).wlog = s.wlog ∧ (s.sendStarted cause).desc = s.desc ∧
      (s.sendStarted cause).lmon = s.lmon ∧ (s.sendStarted cause).shed = s.shed ∧
      (s.sendStarted cause).alarms = s.alarms ∧ (s.sendStarted cause).events = s.events ∧
      (s.sendStarted cause).settings = s.settings ∧ (s.sendStarted cause).factory = s.factory ∧
      (s.sendStarted cause).counters = s.counters ∧ (s.sendStarted cause).free = s.free ∧
      (s.sendStarted cause).pending = s.pending :=
  ⟨rfl, rfl, rfl, rfl, rfl, rfl, rfl, rfl, rfl, rfl, rfl, rfl, rfl, rfl, rfl, rfl, rfl, rfl, rfl, rfl, rfl, rfl⟩

@[simp] theorem State.leavePublished_keeps (s : State) (d : DescState) :
    (s.leavePublished d).pins = s.pins ∧ (s.leavePublished d).otp = s.otp ∧ (s.leavePublished d).time = s.time ∧
      (s.leavePublished d).clock = s.clock ∧ (s.leavePublished d).prc = s.prc ∧ (s.leavePublished d).rxp = s.rxp ∧
      (s.leavePublished d).pool = s.pool ∧ (s.leavePublished d).filters = s.filters ∧
      (s.leavePublished d).answers = s.answers ∧ (s.leavePublished d).templates = s.templates ∧
      (s.leavePublished d).txq = s.txq ∧ (s.leavePublished d).wlog = s.wlog ∧ (s.leavePublished d).lmon = s.lmon ∧
      (s.leavePublished d).shed = s.shed ∧ (s.leavePublished d).alarms = s.alarms ∧
      (s.leavePublished d).link = s.link ∧ (s.leavePublished d).events = s.events ∧
      (s.leavePublished d).settings = s.settings ∧ (s.leavePublished d).factory = s.factory ∧
      (s.leavePublished d).counters = s.counters ∧ (s.leavePublished d).free = s.free ∧
      (s.leavePublished d).pending = s.pending :=
  ⟨rfl, rfl, rfl, rfl, rfl, rfl, rfl, rfl, rfl, rfl, rfl, rfl, rfl, rfl, rfl, rfl, rfl, rfl, rfl, rfl, rfl, rfl⟩

@[simp] theorem State.beginClearing_keeps (s : State) :
    s.beginClearing.pins = s.pins ∧ s.beginClearing.otp = s.otp ∧ s.beginClearing.time = s.time ∧
      s.beginClearing.clock = s.clock ∧ s.beginClearing.prc = s.prc ∧ s.beginClearing.rxp = s.rxp ∧
      s.beginClearing.pool = s.pool ∧ s.beginClearing.filters = s.filters ∧ s.beginClearing.answers = s.answers ∧
      s.beginClearing.templates = s.templates ∧ s.beginClearing.txq = s.txq ∧ s.beginClearing.wlog = s.wlog ∧
      s.beginClearing.lmon = s.lmon ∧ s.beginClearing.shed = s.shed ∧ s.beginClearing.alarms = s.alarms ∧
      s.beginClearing.link = s.link ∧ s.beginClearing.events = s.events ∧ s.beginClearing.settings = s.settings ∧
      s.beginClearing.factory = s.factory ∧ s.beginClearing.counters = s.counters ∧ s.beginClearing.free = s.free ∧
      s.beginClearing.pending = s.pending :=
  ⟨rfl, rfl, rfl, rfl, rfl, rfl, rfl, rfl, rfl, rfl, rfl, rfl, rfl, rfl, rfl, rfl, rfl, rfl, rfl, rfl, rfl, rfl⟩

@[simp] theorem State.hitAnswer_keeps (s : State) (i : Fin 32) (e : AnswerEntry) :
    (s.hitAnswer i e).pins = s.pins ∧ (s.hitAnswer i e).otp = s.otp ∧ (s.hitAnswer i e).time = s.time ∧
      (s.hitAnswer i e).clock = s.clock ∧ (s.hitAnswer i e).prc = s.prc ∧ (s.hitAnswer i e).rxp = s.rxp ∧
      (s.hitAnswer i e).pool = s.pool ∧ (s.hitAnswer i e).filters = s.filters ∧
      (s.hitAnswer i e).templates = s.templates ∧ (s.hitAnswer i e).txq = s.txq ∧ (s.hitAnswer i e).wlog = s.wlog ∧
      (s.hitAnswer i e).desc = s.desc ∧ (s.hitAnswer i e).lmon = s.lmon ∧ (s.hitAnswer i e).shed = s.shed ∧
      (s.hitAnswer i e).alarms = s.alarms ∧ (s.hitAnswer i e).link = s.link ∧ (s.hitAnswer i e).events = s.events ∧
      (s.hitAnswer i e).settings = s.settings ∧ (s.hitAnswer i e).factory = s.factory ∧
      (s.hitAnswer i e).counters = s.counters ∧ (s.hitAnswer i e).free = s.free ∧
      (s.hitAnswer i e).pending = s.pending :=
  ⟨rfl, rfl, rfl, rfl, rfl, rfl, rfl, rfl, rfl, rfl, rfl, rfl, rfl, rfl, rfl, rfl, rfl, rfl, rfl, rfl, rfl, rfl⟩

@[simp] theorem State.hitFilter_keeps (s : State) (i : Nat) :
    (s.hitFilter i).pins = s.pins ∧ (s.hitFilter i).otp = s.otp ∧ (s.hitFilter i).time = s.time ∧
      (s.hitFilter i).clock = s.clock ∧ (s.hitFilter i).prc = s.prc ∧ (s.hitFilter i).rxp = s.rxp ∧
      (s.hitFilter i).pool = s.pool ∧ (s.hitFilter i).answers = s.answers ∧ (s.hitFilter i).templates = s.templates ∧
      (s.hitFilter i).txq = s.txq ∧ (s.hitFilter i).wlog = s.wlog ∧ (s.hitFilter i).desc = s.desc ∧
      (s.hitFilter i).lmon = s.lmon ∧ (s.hitFilter i).shed = s.shed ∧ (s.hitFilter i).alarms = s.alarms ∧
      (s.hitFilter i).link = s.link ∧ (s.hitFilter i).events = s.events ∧ (s.hitFilter i).settings = s.settings ∧
      (s.hitFilter i).factory = s.factory ∧ (s.hitFilter i).counters = s.counters ∧ (s.hitFilter i).free = s.free ∧
      (s.hitFilter i).pending = s.pending :=
  ⟨rfl, rfl, rfl, rfl, rfl, rfl, rfl, rfl, rfl, rfl, rfl, rfl, rfl, rfl, rfl, rfl, rfl, rfl, rfl, rfl, rfl, rfl⟩

@[simp] theorem State.coalesce_keeps (s : State) :
    s.coalesce.pins = s.pins ∧ s.coalesce.otp = s.otp ∧ s.coalesce.time = s.time ∧ s.coalesce.clock = s.clock ∧
      s.coalesce.prc = s.prc ∧ s.coalesce.rxp = s.rxp ∧ s.coalesce.pool = s.pool ∧ s.coalesce.filters = s.filters ∧
      s.coalesce.answers = s.answers ∧ s.coalesce.templates = s.templates ∧ s.coalesce.txq = s.txq ∧
      s.coalesce.desc = s.desc ∧ s.coalesce.lmon = s.lmon ∧ s.coalesce.shed = s.shed ∧ s.coalesce.alarms = s.alarms ∧
      s.coalesce.link = s.link ∧ s.coalesce.settings = s.settings ∧ s.coalesce.factory = s.factory ∧
      s.coalesce.counters = s.counters ∧ s.coalesce.free = s.free ∧ s.coalesce.pending = s.pending :=
  ⟨rfl, rfl, rfl, rfl, rfl, rfl, rfl, rfl, rfl, rfl, rfl, rfl, rfl, rfl, rfl, rfl, rfl, rfl, rfl, rfl, rfl⟩

@[simp] theorem State.tick_keeps (s : State) :
    s.tick.pins = s.pins ∧ s.tick.otp = s.otp ∧ s.tick.prc = s.prc ∧ s.tick.rxp = s.rxp ∧ s.tick.pool = s.pool ∧
      s.tick.filters = s.filters ∧ s.tick.answers = s.answers ∧ s.tick.templates = s.templates ∧ s.tick.txq = s.txq ∧
      s.tick.wlog = s.wlog ∧ s.tick.desc = s.desc ∧ s.tick.lmon = s.lmon ∧ s.tick.shed = s.shed ∧
      s.tick.link = s.link ∧ s.tick.events = s.events ∧ s.tick.settings = s.settings ∧ s.tick.factory = s.factory ∧
      s.tick.counters = s.counters ∧ s.tick.free = s.free ∧ s.tick.pending = s.pending :=
  ⟨rfl, rfl, rfl, rfl, rfl, rfl, rfl, rfl, rfl, rfl, rfl, rfl, rfl, rfl, rfl, rfl, rfl, rfl, rfl, rfl⟩

@[simp] theorem State.elapse_keeps (s : State) (us : Nat) :
    (s.elapse us).pins = s.pins ∧ (s.elapse us).otp = s.otp ∧ (s.elapse us).prc = s.prc ∧ (s.elapse us).rxp = s.rxp ∧
      (s.elapse us).pool = s.pool ∧ (s.elapse us).filters = s.filters ∧ (s.elapse us).answers = s.answers ∧
      (s.elapse us).templates = s.templates ∧ (s.elapse us).txq = s.txq ∧ (s.elapse us).wlog = s.wlog ∧
      (s.elapse us).desc = s.desc ∧ (s.elapse us).lmon = s.lmon ∧ (s.elapse us).shed = s.shed ∧
      (s.elapse us).alarms = s.alarms ∧ (s.elapse us).link = s.link ∧ (s.elapse us).events = s.events ∧
      (s.elapse us).settings = s.settings ∧ (s.elapse us).factory = s.factory ∧ (s.elapse us).counters = s.counters ∧
      (s.elapse us).free = s.free ∧ (s.elapse us).pending = s.pending :=
  ⟨rfl, rfl, rfl, rfl, rfl, rfl, rfl, rfl, rfl, rfl, rfl, rfl, rfl, rfl, rfl, rfl, rfl, rfl, rfl, rfl, rfl⟩

@[simp] theorem State.afterChoice_keeps (s : State) :
    s.afterChoice.pins = s.pins ∧ s.afterChoice.otp = s.otp ∧ s.afterChoice.time = s.time ∧
      s.afterChoice.clock = s.clock ∧ s.afterChoice.prc = s.prc ∧ s.afterChoice.rxp = s.rxp ∧
      s.afterChoice.pool = s.pool ∧ s.afterChoice.filters = s.filters ∧ s.afterChoice.answers = s.answers ∧
      s.afterChoice.templates = s.templates ∧ s.afterChoice.txq = s.txq ∧ s.afterChoice.wlog = s.wlog ∧
      s.afterChoice.desc = s.desc ∧ s.afterChoice.lmon = s.lmon ∧ s.afterChoice.shed = s.shed ∧
      s.afterChoice.alarms = s.alarms ∧ s.afterChoice.link = s.link ∧ s.afterChoice.events = s.events ∧
      s.afterChoice.settings = s.settings ∧ s.afterChoice.factory = s.factory ∧ s.afterChoice.counters = s.counters ∧
      s.afterChoice.pending = s.pending :=
  ⟨rfl, rfl, rfl, rfl, rfl, rfl, rfl, rfl, rfl, rfl, rfl, rfl, rfl, rfl, rfl, rfl, rfl, rfl, rfl, rfl, rfl, rfl⟩

@[simp] theorem State.refuseAddress_keeps (s : State) :
    s.refuseAddress.pins = s.pins ∧ s.refuseAddress.otp = s.otp ∧ s.refuseAddress.time = s.time ∧
      s.refuseAddress.clock = s.clock ∧ s.refuseAddress.prc = s.prc ∧ s.refuseAddress.rxp = s.rxp ∧
      s.refuseAddress.pool = s.pool ∧ s.refuseAddress.filters = s.filters ∧ s.refuseAddress.answers = s.answers ∧
      s.refuseAddress.templates = s.templates ∧ s.refuseAddress.txq = s.txq ∧ s.refuseAddress.wlog = s.wlog ∧
      s.refuseAddress.lmon = s.lmon ∧ s.refuseAddress.shed = s.shed ∧ s.refuseAddress.alarms = s.alarms ∧
      s.refuseAddress.link = s.link ∧ s.refuseAddress.events = s.events ∧ s.refuseAddress.settings = s.settings ∧
      s.refuseAddress.factory = s.factory ∧ s.refuseAddress.free = s.free ∧ s.refuseAddress.pending = s.pending :=
  ⟨rfl, rfl, rfl, rfl, rfl, rfl, rfl, rfl, rfl, rfl, rfl, rfl, rfl, rfl, rfl, rfl, rfl, rfl, rfl, rfl, rfl⟩

@[simp] theorem State.discardFrame_keeps (s : State) :
    s.discardFrame.pins = s.pins ∧ s.discardFrame.otp = s.otp ∧ s.discardFrame.time = s.time ∧
      s.discardFrame.clock = s.clock ∧ s.discardFrame.prc = s.prc ∧ s.discardFrame.rxp = s.rxp ∧
      s.discardFrame.pool = s.pool ∧ s.discardFrame.filters = s.filters ∧ s.discardFrame.answers = s.answers ∧
      s.discardFrame.templates = s.templates ∧ s.discardFrame.txq = s.txq ∧ s.discardFrame.wlog = s.wlog ∧
      s.discardFrame.desc = s.desc ∧ s.discardFrame.lmon = s.lmon ∧ s.discardFrame.shed = s.shed ∧
      s.discardFrame.alarms = s.alarms ∧ s.discardFrame.settings = s.settings ∧ s.discardFrame.factory = s.factory ∧
      s.discardFrame.free = s.free ∧ s.discardFrame.pending = s.pending :=
  ⟨rfl, rfl, rfl, rfl, rfl, rfl, rfl, rfl, rfl, rfl, rfl, rfl, rfl, rfl, rfl, rfl, rfl, rfl, rfl, rfl⟩

@[simp] theorem State.resetTablesScope_keeps (s : State) :
    s.resetTablesScope.pins = s.pins ∧ s.resetTablesScope.otp = s.otp ∧ s.resetTablesScope.time = s.time ∧
      s.resetTablesScope.clock = s.clock ∧ s.resetTablesScope.prc = s.prc ∧ s.resetTablesScope.rxp = s.rxp ∧
      s.resetTablesScope.pool = s.pool ∧ s.resetTablesScope.txq = s.txq ∧ s.resetTablesScope.wlog = s.wlog ∧
      s.resetTablesScope.desc = s.desc ∧ s.resetTablesScope.lmon = s.lmon ∧ s.resetTablesScope.shed = s.shed ∧
      s.resetTablesScope.alarms = s.alarms ∧ s.resetTablesScope.link = s.link ∧
      s.resetTablesScope.events = s.events ∧ s.resetTablesScope.settings = s.settings ∧
      s.resetTablesScope.factory = s.factory ∧ s.resetTablesScope.counters = s.counters ∧
      s.resetTablesScope.free = s.free ∧ s.resetTablesScope.pending = s.pending :=
  ⟨rfl, rfl, rfl, rfl, rfl, rfl, rfl, rfl, rfl, rfl, rfl, rfl, rfl, rfl, rfl, rfl, rfl, rfl, rfl, rfl⟩

/-! ### What they do change -/

@[simp] theorem State.raise_events (s : State) (f : EventFlag) : (s.raise f).events = s.events.raise f s.time := rfl
@[simp] theorem State.count_counters (s : State) (c : Counter) :
    (s.count c).counters = s.counters.set c.position (s.counters[c.position] + 1) := rfl
@[simp] theorem State.setBuffer_pool (s : State) (i : Fin 10) (b : Buffer) :
    (s.setBuffer i b).pool = s.pool.set i b := rfl
@[simp] theorem State.hunt_link (s : State) : s.hunt.link = { s.link with assembler := .hunt } := rfl
@[simp] theorem State.drawFree_fst (s : State) : s.drawFree.1 = Config.freeNat s.free := rfl
@[simp] theorem State.clearCounters_counters (s : State) : s.clearCounters.counters = countersCold := rfl
@[simp] theorem State.beginClearing_desc (s : State) : s.beginClearing.desc =
    { s.desc with state := .clearing, holdDownEnd := none, passLatest := some (s.inMs 1) } := rfl
@[simp] theorem State.leavePublished_desc (s : State) (d : DescState) : (s.leavePublished d).desc =
    { s.desc with state := d, readyLow := s.time, page := 0, readOffset := 0 } := rfl
@[simp] theorem State.tick_time (s : State) : s.tick.time = s.time + 1 := rfl
@[simp] theorem State.tick_clock (s : State) : s.tick.clock = s.clock + Config.nsPerUs := rfl

end Sys2Proof.Machine
end

