-- ==== Sys2Proof/Laws/Ops.lean ====
section
/-! SUPPORT. The same for the shared operations that branch: what each leaves as it was, whatever branch it takes. -/

namespace Sys2Proof.Machine

@[simp] theorem State.respond_keeps (s : State) (st : Status) (fields : List Byte) :
    (s.respond st fields).pins = s.pins ∧ (s.respond st fields).otp = s.otp ∧ (s.respond st fields).time = s.time ∧
      (s.respond st fields).clock = s.clock ∧ (s.respond st fields).prc = s.prc ∧ (s.respond st fields).rxp = s.rxp ∧
      (s.respond st fields).pool = s.pool ∧ (s.respond st fields).filters = s.filters ∧
      (s.respond st fields).answers = s.answers ∧ (s.respond st fields).templates = s.templates ∧
      (s.respond st fields).txq = s.txq ∧ (s.respond st fields).wlog = s.wlog ∧ (s.respond st fields).desc = s.desc ∧
      (s.respond st fields).lmon = s.lmon ∧ (s.respond st fields).shed = s.shed ∧
      (s.respond st fields).alarms = s.alarms ∧ (s.respond st fields).events = s.events ∧
      (s.respond st fields).settings = s.settings ∧ (s.respond st fields).factory = s.factory ∧
      (s.respond st fields).counters = s.counters ∧ (s.respond st fields).free = s.free ∧
      (s.respond st fields).pending = s.pending := by
  unfold State.respond
  split <;> simp

@[simp] theorem State.claim_keeps (s : State) (o : Owner) :
    (s.claim o).2.pins = s.pins ∧ (s.claim o).2.otp = s.otp ∧ (s.claim o).2.time = s.time ∧
      (s.claim o).2.clock = s.clock ∧ (s.claim o).2.prc = s.prc ∧ (s.claim o).2.rxp = s.rxp ∧
      (s.claim o).2.filters = s.filters ∧ (s.claim o).2.answers = s.answers ∧ (s.claim o).2.templates = s.templates ∧
      (s.claim o).2.txq = s.txq ∧ (s.claim o).2.wlog = s.wlog ∧ (s.claim o).2.desc = s.desc ∧
      (s.claim o).2.lmon = s.lmon ∧ (s.claim o).2.shed = s.shed ∧ (s.claim o).2.alarms = s.alarms ∧
      (s.claim o).2.link = s.link ∧ (s.claim o).2.settings = s.settings ∧ (s.claim o).2.factory = s.factory ∧
      (s.claim o).2.counters = s.counters ∧ (s.claim o).2.free = s.free ∧ (s.claim o).2.pending = s.pending := by
  unfold State.claim
  split <;> simp

@[simp] theorem State.reportWake_keeps (s : State) :
    s.reportWake.pins = s.pins ∧ s.reportWake.otp = s.otp ∧ s.reportWake.time = s.time ∧
      s.reportWake.clock = s.clock ∧ s.reportWake.rxp = s.rxp ∧ s.reportWake.pool = s.pool ∧
      s.reportWake.filters = s.filters ∧ s.reportWake.answers = s.answers ∧ s.reportWake.templates = s.templates ∧
      s.reportWake.txq = s.txq ∧ s.reportWake.wlog = s.wlog ∧ s.reportWake.desc = s.desc ∧
      s.reportWake.lmon = s.lmon ∧ s.reportWake.shed = s.shed ∧ s.reportWake.alarms = s.alarms ∧
      s.reportWake.link = s.link ∧ s.reportWake.events = s.events ∧ s.reportWake.settings = s.settings ∧
      s.reportWake.factory = s.factory ∧ s.reportWake.counters = s.counters ∧ s.reportWake.free = s.free ∧
      s.reportWake.pending = s.pending := by
  unfold State.reportWake
  split <;> simp

@[simp] theorem State.addRecord_keeps (s : State) (q : Word) (o : Offer) :
    (s.addRecord q o).pins = s.pins ∧ (s.addRecord q o).otp = s.otp ∧ (s.addRecord q o).time = s.time ∧
      (s.addRecord q o).clock = s.clock ∧ (s.addRecord q o).prc = s.prc ∧ (s.addRecord q o).rxp = s.rxp ∧
      (s.addRecord q o).filters = s.filters ∧ (s.addRecord q o).answers = s.answers ∧
      (s.addRecord q o).templates = s.templates ∧ (s.addRecord q o).txq = s.txq ∧ (s.addRecord q o).desc = s.desc ∧
      (s.addRecord q o).lmon = s.lmon ∧ (s.addRecord q o).shed = s.shed ∧ (s.addRecord q o).alarms = s.alarms ∧
      (s.addRecord q o).link = s.link ∧ (s.addRecord q o).events = s.events ∧
      (s.addRecord q o).settings = s.settings ∧ (s.addRecord q o).factory = s.factory ∧
      (s.addRecord q o).counters = s.counters ∧ (s.addRecord q o).free = s.free ∧
      (s.addRecord q o).pending = s.pending := by
  unfold State.addRecord
  split <;> simp

@[simp] theorem State.takeCause_keeps (s : State) (o : Offer) :
    (s.takeCause o).pins = s.pins ∧ (s.takeCause o).otp = s.otp ∧ (s.takeCause o).time = s.time ∧
      (s.takeCause o).clock = s.clock ∧ (s.takeCause o).rxp = s.rxp ∧ (s.takeCause o).filters = s.filters ∧
      (s.takeCause o).answers = s.answers ∧ (s.takeCause o).templates = s.templates ∧ (s.takeCause o).txq = s.txq ∧
      (s.takeCause o).desc = s.desc ∧ (s.takeCause o).lmon = s.lmon ∧ (s.takeCause o).shed = s.shed ∧
      (s.takeCause o).alarms = s.alarms ∧ (s.takeCause o).link = s.link ∧ (s.takeCause o).settings = s.settings ∧
      (s.takeCause o).factory = s.factory ∧ (s.takeCause o).counters = s.counters ∧ (s.takeCause o).free = s.free ∧
      (s.takeCause o).pending = s.pending := by
  unfold State.takeCause
  split
  · split
    · split <;> simp
    · simp
  · simp

@[simp] theorem State.cutFrame_keeps (s : State) :
    s.cutFrame.pins = s.pins ∧ s.cutFrame.otp = s.otp ∧ s.cutFrame.time = s.time ∧ s.cutFrame.clock = s.clock ∧
      s.cutFrame.prc = s.prc ∧ s.cutFrame.filters = s.filters ∧ s.cutFrame.answers = s.answers ∧
      s.cutFrame.templates = s.templates ∧ s.cutFrame.txq = s.txq ∧ s.cutFrame.wlog = s.wlog ∧
      s.cutFrame.desc = s.desc ∧ s.cutFrame.lmon = s.lmon ∧ s.cutFrame.shed = s.shed ∧ s.cutFrame.alarms = s.alarms ∧
      s.cutFrame.link = s.link ∧ s.cutFrame.events = s.events ∧ s.cutFrame.settings = s.settings ∧
      s.cutFrame.factory = s.factory ∧ s.cutFrame.free = s.free ∧ s.cutFrame.pending = s.pending := by
  unfold State.cutFrame
  split <;> simp

@[simp] theorem State.flushReplies_keeps (rs : List QueuedReply) (s : State) :
    (s.flushReplies rs).pins = s.pins ∧ (s.flushReplies rs).otp = s.otp ∧ (s.flushReplies rs).time = s.time ∧
      (s.flushReplies rs).clock = s.clock ∧ (s.flushReplies rs).prc = s.prc ∧ (s.flushReplies rs).rxp = s.rxp ∧
      (s.flushReplies rs).filters = s.filters ∧ (s.flushReplies rs).answers = s.answers ∧
      (s.flushReplies rs).templates = s.templates ∧ (s.flushReplies rs).txq = s.txq ∧
      (s.flushReplies rs).wlog = s.wlog ∧ (s.flushReplies rs).desc = s.desc ∧ (s.flushReplies rs).lmon = s.lmon ∧
      (s.flushReplies rs).shed = s.shed ∧ (s.flushReplies rs).alarms = s.alarms ∧ (s.flushReplies rs).link = s.link ∧
      (s.flushReplies rs).events = s.events ∧ (s.flushReplies rs).settings = s.settings ∧
      (s.flushReplies rs).factory = s.factory ∧ (s.flushReplies rs).free = s.free ∧
      (s.flushReplies rs).pending = s.pending := by
  induction rs generalizing s with
  | nil => simp [State.flushReplies]
  | cons r rest ih =>
    simp [State.flushReplies, ih]

@[simp] theorem State.flushWaiting_keeps (s : State) :
    s.flushWaiting.pins = s.pins ∧ s.flushWaiting.otp = s.otp ∧ s.flushWaiting.time = s.time ∧
      s.flushWaiting.clock = s.clock ∧ s.flushWaiting.prc = s.prc ∧ s.flushWaiting.rxp = s.rxp ∧
      s.flushWaiting.filters = s.filters ∧ s.flushWaiting.answers = s.answers ∧
      s.flushWaiting.templates = s.templates ∧ s.flushWaiting.wlog = s.wlog ∧ s.flushWaiting.desc = s.desc ∧
      s.flushWaiting.lmon = s.lmon ∧ s.flushWaiting.shed = s.shed ∧ s.flushWaiting.alarms = s.alarms ∧
      s.flushWaiting.link = s.link ∧ s.flushWaiting.events = s.events ∧ s.flushWaiting.settings = s.settings ∧
      s.flushWaiting.factory = s.factory ∧ s.flushWaiting.free = s.free ∧ s.flushWaiting.pending = s.pending := by
  unfold State.flushWaiting
  split <;> simp

@[simp] theorem State.switchToPart_keeps (s : State) (forced : Bool) :
    (s.switchToPart forced).pins = s.pins ∧ (s.switchToPart forced).otp = s.otp ∧
      (s.switchToPart forced).time = s.time ∧ (s.switchToPart forced).clock = s.clock ∧
      (s.switchToPart forced).filters = s.filters ∧ (s.switchToPart forced).answers = s.answers ∧
      (s.switchToPart forced).templates = s.templates ∧ (s.switchToPart forced).wlog = s.wlog ∧
      (s.switchToPart forced).desc = s.desc ∧ (s.switchToPart forced).lmon = s.lmon ∧
      (s.switchToPart forced).shed = s.shed ∧ (s.switchToPart forced).alarms = s.alarms ∧
      (s.switchToPart forced).events = s.events ∧ (s.switchToPart forced).settings = s.settings ∧
      (s.switchToPart forced).factory = s.factory ∧ (s.switchToPart forced).free = s.free ∧
      (s.switchToPart forced).pending = s.pending := by
  simp [State.switchToPart]

@[simp] theorem State.testWait_keeps (s : State) :
    s.testWait.pins = s.pins ∧ s.testWait.otp = s.otp ∧ s.testWait.time = s.time ∧ s.testWait.clock = s.clock ∧
      s.testWait.filters = s.filters ∧ s.testWait.answers = s.answers ∧ s.testWait.templates = s.templates ∧
      s.testWait.wlog = s.wlog ∧ s.testWait.desc = s.desc ∧ s.testWait.lmon = s.lmon ∧ s.testWait.shed = s.shed ∧
      s.testWait.alarms = s.alarms ∧ s.testWait.events = s.events ∧ s.testWait.settings = s.settings ∧
      s.testWait.factory = s.factory ∧ s.testWait.free = s.free ∧ s.testWait.pending = s.pending := by
  unfold State.testWait
  split <;> simp

@[simp] theorem State.leavingEnd_keeps (s : State) :
    s.leavingEnd.pins = s.pins ∧ s.leavingEnd.otp = s.otp ∧ s.leavingEnd.time = s.time ∧
      s.leavingEnd.clock = s.clock ∧ s.leavingEnd.filters = s.filters ∧ s.leavingEnd.answers = s.answers ∧
      s.leavingEnd.templates = s.templates ∧ s.leavingEnd.txq = s.txq ∧ s.leavingEnd.wlog = s.wlog ∧
      s.leavingEnd.desc = s.desc ∧ s.leavingEnd.lmon = s.lmon ∧ s.leavingEnd.shed = s.shed ∧
      s.leavingEnd.alarms = s.alarms ∧ s.leavingEnd.events = s.events ∧ s.leavingEnd.settings = s.settings ∧
      s.leavingEnd.factory = s.factory ∧ s.leavingEnd.free = s.free ∧ s.leavingEnd.pending = s.pending := by
  simp [State.leavingEnd]

@[simp] theorem State.cutAndReport_keeps (s : State) :
    s.cutAndReport.pins = s.pins ∧ s.cutAndReport.otp = s.otp ∧ s.cutAndReport.time = s.time ∧
      s.cutAndReport.clock = s.clock ∧ s.cutAndReport.filters = s.filters ∧ s.cutAndReport.answers = s.answers ∧
      s.cutAndReport.templates = s.templates ∧ s.cutAndReport.wlog = s.wlog ∧ s.cutAndReport.desc = s.desc ∧
      s.cutAndReport.lmon = s.lmon ∧ s.cutAndReport.shed = s.shed ∧ s.cutAndReport.alarms = s.alarms ∧
      s.cutAndReport.events = s.events ∧ s.cutAndReport.settings = s.settings ∧ s.cutAndReport.factory = s.factory ∧
      s.cutAndReport.free = s.free ∧ s.cutAndReport.pending = s.pending := by
  unfold State.cutAndReport
  split <;> simp

@[simp] theorem State.linkFlush_keeps (s : State) :
    s.linkFlush.pins = s.pins ∧ s.linkFlush.otp = s.otp ∧ s.linkFlush.time = s.time ∧ s.linkFlush.clock = s.clock ∧
      s.linkFlush.filters = s.filters ∧ s.linkFlush.answers = s.answers ∧ s.linkFlush.templates = s.templates ∧
      s.linkFlush.wlog = s.wlog ∧ s.linkFlush.desc = s.desc ∧ s.linkFlush.lmon = s.lmon ∧ s.linkFlush.shed = s.shed ∧
      s.linkFlush.alarms = s.alarms ∧ s.linkFlush.events = s.events ∧ s.linkFlush.settings = s.settings ∧
      s.linkFlush.factory = s.factory ∧ s.linkFlush.free = s.free ∧ s.linkFlush.pending = s.pending := by
  unfold State.linkFlush
  dsimp only
  split <;> simp

@[simp] theorem State.leaveUp_keeps (s : State) (dest : Link) :
    (s.leaveUp dest).pins = s.pins ∧ (s.leaveUp dest).otp = s.otp ∧ (s.leaveUp dest).time = s.time ∧
      (s.leaveUp dest).clock = s.clock ∧ (s.leaveUp dest).filters = s.filters ∧
      (s.leaveUp dest).answers = s.answers ∧ (s.leaveUp dest).templates = s.templates ∧
      (s.leaveUp dest).desc = s.desc ∧ (s.leaveUp dest).shed = s.shed ∧ (s.leaveUp dest).alarms = s.alarms ∧
      (s.leaveUp dest).settings = s.settings ∧ (s.leaveUp dest).factory = s.factory ∧
      (s.leaveUp dest).free = s.free ∧ (s.leaveUp dest).pending = s.pending := by
  simp [State.leaveUp]

@[simp] theorem State.applyHoldDown_keeps (s : State) :
    s.applyHoldDown.pins = s.pins ∧ s.applyHoldDown.otp = s.otp ∧ s.applyHoldDown.time = s.time ∧
      s.applyHoldDown.clock = s.clock ∧ s.applyHoldDown.prc = s.prc ∧ s.applyHoldDown.rxp = s.rxp ∧
      s.applyHoldDown.pool = s.pool ∧ s.applyHoldDown.filters = s.filters ∧ s.applyHoldDown.answers = s.answers ∧
      s.applyHoldDown.templates = s.templates ∧ s.applyHoldDown.txq = s.txq ∧ s.applyHoldDown.wlog = s.wlog ∧
      s.applyHoldDown.lmon = s.lmon ∧ s.applyHoldDown.shed = s.shed ∧ s.applyHoldDown.alarms = s.alarms ∧
      s.applyHoldDown.link = s.link ∧ s.applyHoldDown.events = s.events ∧ s.applyHoldDown.settings = s.settings ∧
      s.applyHoldDown.factory = s.factory ∧ s.applyHoldDown.counters = s.counters ∧ s.applyHoldDown.free = s.free ∧
      s.applyHoldDown.pending = s.pending := by
  unfold State.applyHoldDown
  split <;> simp

@[simp] theorem State.takeDeferred_keeps (s : State) :
    s.takeDeferred.pins = s.pins ∧ s.takeDeferred.otp = s.otp ∧ s.takeDeferred.time = s.time ∧
      s.takeDeferred.clock = s.clock ∧ s.takeDeferred.prc = s.prc ∧ s.takeDeferred.rxp = s.rxp ∧
      s.takeDeferred.pool = s.pool ∧ s.takeDeferred.filters = s.filters ∧ s.takeDeferred.answers = s.answers ∧
      s.takeDeferred.templates = s.templates ∧ s.takeDeferred.txq = s.txq ∧ s.takeDeferred.wlog = s.wlog ∧
      s.takeDeferred.lmon = s.lmon ∧ s.takeDeferred.shed = s.shed ∧ s.takeDeferred.alarms = s.alarms ∧
      s.takeDeferred.events = s.events ∧ s.takeDeferred.settings = s.settings ∧ s.takeDeferred.factory = s.factory ∧
      s.takeDeferred.counters = s.counters ∧ s.takeDeferred.free = s.free ∧ s.takeDeferred.pending = s.pending := by
  unfold State.takeDeferred
  split <;> simp

@[simp] theorem State.sendNotice_keeps (s : State) (flag : Fin 16) :
    (s.sendNotice flag).pins = s.pins ∧ (s.sendNotice flag).otp = s.otp ∧ (s.sendNotice flag).time = s.time ∧
      (s.sendNotice flag).clock = s.clock ∧ (s.sendNotice flag).prc = s.prc ∧ (s.sendNotice flag).rxp = s.rxp ∧
      (s.sendNotice flag).pool = s.pool ∧ (s.sendNotice flag).filters = s.filters ∧
      (s.sendNotice flag).answers = s.answers ∧ (s.sendNotice flag).templates = s.templates ∧
      (s.sendNotice flag).txq = s.txq ∧ (s.sendNotice flag).wlog = s.wlog ∧ (s.sendNotice flag).desc = s.desc ∧
      (s.sendNotice flag).lmon = s.lmon ∧ (s.sendNotice flag).shed = s.shed ∧ (s.sendNotice flag).alarms = s.alarms ∧
      (s.sendNotice flag).settings = s.settings ∧ (s.sendNotice flag).factory = s.factory ∧
      (s.sendNotice flag).counters = s.counters ∧ (s.sendNotice flag).free = s.free ∧
      (s.sendNotice flag).pending = s.pending := by
  unfold State.sendNotice
  split <;> simp

@[simp] theorem State.chooseFrame_keeps (s : State) (together : Bool) :
    (s.chooseFrame together).pins = s.pins ∧ (s.chooseFrame together).otp = s.otp ∧
      (s.chooseFrame together).time = s.time ∧ (s.chooseFrame together).clock = s.clock ∧
      (s.chooseFrame together).prc = s.prc ∧ (s.chooseFrame together).rxp = s.rxp ∧
      (s.chooseFrame together).pool = s.pool ∧ (s.chooseFrame together).filters = s.filters ∧
      (s.chooseFrame together).answers = s.answers ∧ (s.chooseFrame together).templates = s.templates ∧
      (s.chooseFrame together).txq = s.txq ∧ (s.chooseFrame together).wlog = s.wlog ∧
      (s.chooseFrame together).desc = s.desc ∧ (s.chooseFrame together).lmon = s.lmon ∧
      (s.chooseFrame together).shed = s.shed ∧ (s.chooseFrame together).alarms = s.alarms ∧
      (s.chooseFrame together).settings = s.settings ∧ (s.chooseFrame together).factory = s.factory ∧
      (s.chooseFrame together).counters = s.counters ∧ (s.chooseFrame together).pending = s.pending := by
  unfold State.chooseFrame
  split
  · simp
  · split
    · simp
    · simp
    · simp
    · split
      · dsimp only
        split <;> simp
      · simp

@[simp] theorem State.offerFrame_keeps (s : State) (m : Message) :
    (s.offerFrame m).pins = s.pins ∧ (s.offerFrame m).otp = s.otp ∧ (s.offerFrame m).time = s.time ∧
      (s.offerFrame m).clock = s.clock ∧ (s.offerFrame m).prc = s.prc ∧ (s.offerFrame m).rxp = s.rxp ∧
      (s.offerFrame m).pool = s.pool ∧ (s.offerFrame m).filters = s.filters ∧ (s.offerFrame m).answers = s.answers ∧
      (s.offerFrame m).templates = s.templates ∧ (s.offerFrame m).txq = s.txq ∧ (s.offerFrame m).wlog = s.wlog ∧
      (s.offerFrame m).desc = s.desc ∧ (s.offerFrame m).lmon = s.lmon ∧ (s.offerFrame m).shed = s.shed ∧
      (s.offerFrame m).alarms = s.alarms ∧ (s.offerFrame m).settings = s.settings ∧
      (s.offerFrame m).factory = s.factory ∧ (s.offerFrame m).free = s.free ∧ (s.offerFrame m).pending = s.pending := by
  unfold State.offerFrame
  split <;> simp

@[simp] theorem State.takeLinkByte_keeps (s : State) (b : Byte) :
    (s.takeLinkByte b).pins = s.pins ∧ (s.takeLinkByte b).otp = s.otp ∧ (s.takeLinkByte b).time = s.time ∧
      (s.takeLinkByte b).clock = s.clock ∧ (s.takeLinkByte b).prc = s.prc ∧ (s.takeLinkByte b).rxp = s.rxp ∧
      (s.takeLinkByte b).pool = s.pool ∧ (s.takeLinkByte b).filters = s.filters ∧
      (s.takeLinkByte b).answers = s.answers ∧ (s.takeLinkByte b).templates = s.templates ∧
      (s.takeLinkByte b).txq = s.txq ∧ (s.takeLinkByte b).wlog = s.wlog ∧ (s.takeLinkByte b).desc = s.desc ∧
      (s.takeLinkByte b).lmon = s.lmon ∧ (s.takeLinkByte b).shed = s.shed ∧ (s.takeLinkByte b).alarms = s.alarms ∧
      (s.takeLinkByte b).settings = s.settings ∧ (s.takeLinkByte b).factory = s.factory ∧
      (s.takeLinkByte b).free = s.free ∧ (s.takeLinkByte b).pending = s.pending := by
  unfold State.takeLinkByte
  split
  · split <;> simp
  · split <;> simp
  · split
    · simp
    · split <;> simp

@[simp] theorem State.freeSlot_keeps (s : State) (k : Fin 2) :
    (s.freeSlot k).pins = s.pins ∧ (s.freeSlot k).otp = s.otp ∧ (s.freeSlot k).time = s.time ∧
      (s.freeSlot k).clock = s.clock ∧ (s.freeSlot k).prc = s.prc ∧ (s.freeSlot k).rxp = s.rxp ∧
      (s.freeSlot k).filters = s.filters ∧ (s.freeSlot k).answers = s.answers ∧
      (s.freeSlot k).templates = s.templates ∧ (s.freeSlot k).txq = s.txq ∧ (s.freeSlot k).desc = s.desc ∧
      (s.freeSlot k).lmon = s.lmon ∧ (s.freeSlot k).shed = s.shed ∧ (s.freeSlot k).alarms = s.alarms ∧
      (s.freeSlot k).link = s.link ∧ (s.freeSlot k).events = s.events ∧ (s.freeSlot k).settings = s.settings ∧
      (s.freeSlot k).factory = s.factory ∧ (s.freeSlot k).counters = s.counters ∧ (s.freeSlot k).free = s.free ∧
      (s.freeSlot k).pending = s.pending := by
  unfold State.freeSlot
  split <;> simp

@[simp] theorem State.freeCaptureOf_keeps (s : State) (r : WakeRecord) :
    (s.freeCaptureOf r).pins = s.pins ∧ (s.freeCaptureOf r).otp = s.otp ∧ (s.freeCaptureOf r).time = s.time ∧
      (s.freeCaptureOf r).clock = s.clock ∧ (s.freeCaptureOf r).prc = s.prc ∧ (s.freeCaptureOf r).rxp = s.rxp ∧
      (s.freeCaptureOf r).filters = s.filters ∧ (s.freeCaptureOf r).answers = s.answers ∧
      (s.freeCaptureOf r).templates = s.templates ∧ (s.freeCaptureOf r).txq = s.txq ∧
      (s.freeCaptureOf r).desc = s.desc ∧ (s.freeCaptureOf r).lmon = s.lmon ∧ (s.freeCaptureOf r).shed = s.shed ∧
      (s.freeCaptureOf r).alarms = s.alarms ∧ (s.freeCaptureOf r).link = s.link ∧
      (s.freeCaptureOf r).events = s.events ∧ (s.freeCaptureOf r).settings = s.settings ∧
      (s.freeCaptureOf r).factory = s.factory ∧ (s.freeCaptureOf r).counters = s.counters ∧
      (s.freeCaptureOf r).free = s.free ∧ (s.freeCaptureOf r).pending = s.pending := by
  unfold State.freeCaptureOf
  split <;> simp

@[simp] theorem State.resetLogScope_keeps (s : State) :
    s.resetLogScope.pins = s.pins ∧ s.resetLogScope.otp = s.otp ∧ s.resetLogScope.time = s.time ∧
      s.resetLogScope.clock = s.clock ∧ s.resetLogScope.prc = s.prc ∧ s.resetLogScope.rxp = s.rxp ∧
      s.resetLogScope.filters = s.filters ∧ s.resetLogScope.answers = s.answers ∧
      s.resetLogScope.templates = s.templates ∧ s.resetLogScope.txq = s.txq ∧ s.resetLogScope.desc = s.desc ∧
      s.resetLogScope.lmon = s.lmon ∧ s.resetLogScope.shed = s.shed ∧ s.resetLogScope.alarms = s.alarms ∧
      s.resetLogScope.link = s.link ∧ s.resetLogScope.events = s.events ∧ s.resetLogScope.settings = s.settings ∧
      s.resetLogScope.factory = s.factory ∧ s.resetLogScope.counters = s.counters ∧ s.resetLogScope.free = s.free ∧
      s.resetLogScope.pending = s.pending := by
  simp [State.resetLogScope]

@[simp] theorem State.resetDescriptorScope_keeps (s : State) :
    s.resetDescriptorScope.pins = s.pins ∧ s.resetDescriptorScope.otp = s.otp ∧
      s.resetDescriptorScope.time = s.time ∧ s.resetDescriptorScope.clock = s.clock ∧
      s.resetDescriptorScope.prc = s.prc ∧ s.resetDescriptorScope.rxp = s.rxp ∧
      s.resetDescriptorScope.pool = s.pool ∧ s.resetDescriptorScope.filters = s.filters ∧
      s.resetDescriptorScope.answers = s.answers ∧ s.resetDescriptorScope.templates = s.templates ∧
      s.resetDescriptorScope.txq = s.txq ∧ s.resetDescriptorScope.wlog = s.wlog ∧
      s.resetDescriptorScope.lmon = s.lmon ∧ s.resetDescriptorScope.shed = s.shed ∧
      s.resetDescriptorScope.alarms = s.alarms ∧ s.resetDescriptorScope.link = s.link ∧
      s.resetDescriptorScope.events = s.events ∧ s.resetDescriptorScope.settings = s.settings ∧
      s.resetDescriptorScope.factory = s.factory ∧ s.resetDescriptorScope.counters = s.counters ∧
      s.resetDescriptorScope.free = s.free ∧ s.resetDescriptorScope.pending = s.pending := by
  unfold State.resetDescriptorScope
  split
  all_goals first | (split <;> simp) | simp

@[simp] theorem State.resetMember_keeps (s : State) (m : ScopeMember) :
    (s.resetMember m).pins = s.pins ∧ (s.resetMember m).otp = s.otp ∧ (s.resetMember m).time = s.time ∧
      (s.resetMember m).clock = s.clock ∧ (s.resetMember m).prc = s.prc ∧ (s.resetMember m).rxp = s.rxp ∧
      (s.resetMember m).txq = s.txq ∧ (s.resetMember m).lmon = s.lmon ∧ (s.resetMember m).shed = s.shed ∧
      (s.resetMember m).link = s.link ∧ (s.resetMember m).events = s.events ∧ (s.resetMember m).factory = s.factory ∧
      (s.resetMember m).free = s.free ∧ (s.resetMember m).pending = s.pending := by
  cases m <;> simp [State.resetMember]

@[simp] theorem State.announceExpiry_keeps (s : State) (n : Fin 4) :
    (s.announceExpiry n).pins = s.pins ∧ (s.announceExpiry n).otp = s.otp ∧ (s.announceExpiry n).time = s.time ∧
      (s.announceExpiry n).clock = s.clock ∧ (s.announceExpiry n).rxp = s.rxp ∧
      (s.announceExpiry n).filters = s.filters ∧ (s.announceExpiry n).answers = s.answers ∧
      (s.announceExpiry n).templates = s.templates ∧ (s.announceExpiry n).txq = s.txq ∧
      (s.announceExpiry n).desc = s.desc ∧ (s.announceExpiry n).lmon = s.lmon ∧ (s.announceExpiry n).shed = s.shed ∧
      (s.announceExpiry n).alarms = s.alarms ∧ (s.announceExpiry n).link = s.link ∧
      (s.announceExpiry n).settings = s.settings ∧ (s.announceExpiry n).factory = s.factory ∧
      (s.announceExpiry n).counters = s.counters ∧ (s.announceExpiry n).free = s.free ∧
      (s.announceExpiry n).pending = s.pending := by
  simp [State.announceExpiry]

@[simp] theorem State.storeByte_keeps (s : State) (i : Fin 10) (b : Byte) :
    (s.storeByte i b).pins = s.pins ∧ (s.storeByte i b).otp = s.otp ∧ (s.storeByte i b).time = s.time ∧
      (s.storeByte i b).clock = s.clock ∧ (s.storeByte i b).prc = s.prc ∧ (s.storeByte i b).rxp = s.rxp ∧
      (s.storeByte i b).filters = s.filters ∧ (s.storeByte i b).answers = s.answers ∧
      (s.storeByte i b).templates = s.templates ∧ (s.storeByte i b).txq = s.txq ∧ (s.storeByte i b).wlog = s.wlog ∧
      (s.storeByte i b).desc = s.desc ∧ (s.storeByte i b).lmon = s.lmon ∧ (s.storeByte i b).shed = s.shed ∧
      (s.storeByte i b).alarms = s.alarms ∧ (s.storeByte i b).link = s.link ∧ (s.storeByte i b).events = s.events ∧
      (s.storeByte i b).settings = s.settings ∧ (s.storeByte i b).factory = s.factory ∧
      (s.storeByte i b).counters = s.counters ∧ (s.storeByte i b).free = s.free ∧
      (s.storeByte i b).pending = s.pending := by
  unfold State.storeByte
  split <;> simp

@[simp] theorem State.takeFrameByte_keeps (s : State) (b : Byte) :
    (s.takeFrameByte b).pins = s.pins ∧ (s.takeFrameByte b).otp = s.otp ∧ (s.takeFrameByte b).time = s.time ∧
      (s.takeFrameByte b).clock = s.clock ∧ (s.takeFrameByte b).prc = s.prc ∧
      (s.takeFrameByte b).filters = s.filters ∧ (s.takeFrameByte b).answers = s.answers ∧
      (s.takeFrameByte b).templates = s.templates ∧ (s.takeFrameByte b).txq = s.txq ∧
      (s.takeFrameByte b).wlog = s.wlog ∧ (s.takeFrameByte b).desc = s.desc ∧ (s.takeFrameByte b).lmon = s.lmon ∧
      (s.takeFrameByte b).shed = s.shed ∧ (s.takeFrameByte b).alarms = s.alarms ∧ (s.takeFrameByte b).link = s.link ∧
      (s.takeFrameByte b).events = s.events ∧ (s.takeFrameByte b).settings = s.settings ∧
      (s.takeFrameByte b).factory = s.factory ∧ (s.takeFrameByte b).counters = s.counters ∧
      (s.takeFrameByte b).free = s.free ∧ (s.takeFrameByte b).pending = s.pending := by
  unfold State.takeFrameByte
  split <;> simp

@[simp] theorem State.claimAndQueue_keeps (s : State) (i : Fin 32) (e : AnswerEntry) (frame : List Byte) :
    (s.claimAndQueue i e frame).pins = s.pins ∧ (s.claimAndQueue i e frame).otp = s.otp ∧
      (s.claimAndQueue i e frame).time = s.time ∧ (s.claimAndQueue i e frame).clock = s.clock ∧
      (s.claimAndQueue i e frame).prc = s.prc ∧ (s.claimAndQueue i e frame).rxp = s.rxp ∧
      (s.claimAndQueue i e frame).filters = s.filters ∧ (s.claimAndQueue i e frame).templates = s.templates ∧
      (s.claimAndQueue i e frame).wlog = s.wlog ∧ (s.claimAndQueue i e frame).desc = s.desc ∧
      (s.claimAndQueue i e frame).lmon = s.lmon ∧ (s.claimAndQueue i e frame).shed = s.shed ∧
      (s.claimAndQueue i e frame).alarms = s.alarms ∧ (s.claimAndQueue i e frame).link = s.link ∧
      (s.claimAndQueue i e frame).settings = s.settings ∧ (s.claimAndQueue i e frame).factory = s.factory ∧
      (s.claimAndQueue i e frame).free = s.free ∧ (s.claimAndQueue i e frame).pending = s.pending := by
  have hc := s.claim_keeps .queued
  unfold State.claimAndQueue
  split
  · simp
  · split <;> rename_i h <;> rw [h] at hc <;> simp at hc <;> simp [State.queueReply, hc]

@[simp] theorem State.admission_keeps (s : State) (i : Fin 32) (e : AnswerEntry) (frame : List Byte) :
    (s.admission i e frame).pins = s.pins ∧ (s.admission i e frame).otp = s.otp ∧ (s.admission i e frame).time = s.time ∧
      (s.admission i e frame).clock = s.clock ∧ (s.admission i e frame).prc = s.prc ∧ (s.admission i e frame).rxp = s.rxp ∧
      (s.admission i e frame).filters = s.filters ∧ (s.admission i e frame).templates = s.templates ∧
      (s.admission i e frame).wlog = s.wlog ∧ (s.admission i e frame).desc = s.desc ∧ (s.admission i e frame).lmon = s.lmon ∧
      (s.admission i e frame).shed = s.shed ∧ (s.admission i e frame).alarms = s.alarms ∧ (s.admission i e frame).link = s.link ∧
      (s.admission i e frame).settings = s.settings ∧ (s.admission i e frame).factory = s.factory ∧
      (s.admission i e frame).free = s.free ∧ (s.admission i e frame).pending = s.pending := by
  unfold State.admission
  split
  · simp
  · split
    · simp
    · split <;> simp

@[simp] theorem State.answerWalk_keeps (s : State) (frame : List Byte) (decided : Bool) :
    (s.answerWalk frame decided).pins = s.pins ∧ (s.answerWalk frame decided).otp = s.otp ∧
      (s.answerWalk frame decided).time = s.time ∧ (s.answerWalk frame decided).clock = s.clock ∧
      (s.answerWalk frame decided).prc = s.prc ∧ (s.answerWalk frame decided).rxp = s.rxp ∧
      (s.answerWalk frame decided).filters = s.filters ∧ (s.answerWalk frame decided).templates = s.templates ∧
      (s.answerWalk frame decided).wlog = s.wlog ∧ (s.answerWalk frame decided).desc = s.desc ∧
      (s.answerWalk frame decided).lmon = s.lmon ∧ (s.answerWalk frame decided).alarms = s.alarms ∧
      (s.answerWalk frame decided).link = s.link ∧ (s.answerWalk frame decided).settings = s.settings ∧
      (s.answerWalk frame decided).factory = s.factory ∧ (s.answerWalk frame decided).free = s.free ∧
      (s.answerWalk frame decided).pending = s.pending := by
  unfold State.answerWalk
  split
  · split <;> simp
  · split <;> simp

@[simp] theorem State.decideByFilter_keeps (s : State) (r : FilterRecord) (b : Fin 10) (n : Nat) (frame : List Byte) :
    (s.decideByFilter r b n frame).pins = s.pins ∧ (s.decideByFilter r b n frame).otp = s.otp ∧
      (s.decideByFilter r b n frame).time = s.time ∧ (s.decideByFilter r b n frame).clock = s.clock ∧
      (s.decideByFilter r b n frame).rxp = s.rxp ∧ (s.decideByFilter r b n frame).filters = s.filters ∧
      (s.decideByFilter r b n frame).templates = s.templates ∧ (s.decideByFilter r b n frame).desc = s.desc ∧
      (s.decideByFilter r b n frame).lmon = s.lmon ∧ (s.decideByFilter r b n frame).alarms = s.alarms ∧
      (s.decideByFilter r b n frame).link = s.link ∧ (s.decideByFilter r b n frame).settings = s.settings ∧
      (s.decideByFilter r b n frame).factory = s.factory ∧ (s.decideByFilter r b n frame).free = s.free ∧
      (s.decideByFilter r b n frame).pending = s.pending := by
  unfold State.decideByFilter
  split <;> simp

@[simp] theorem State.walkFrame_keeps (s : State) (b : Fin 10) (n : Nat) (frame : List Byte) :
    (s.walkFrame b n frame).pins = s.pins ∧ (s.walkFrame b n frame).otp = s.otp ∧
      (s.walkFrame b n frame).time = s.time ∧ (s.walkFrame b n frame).clock = s.clock ∧
      (s.walkFrame b n frame).rxp = s.rxp ∧ (s.walkFrame b n frame).templates = s.templates ∧
      (s.walkFrame b n frame).desc = s.desc ∧ (s.walkFrame b n frame).lmon = s.lmon ∧
      (s.walkFrame b n frame).alarms = s.alarms ∧ (s.walkFrame b n frame).link = s.link ∧
      (s.walkFrame b n frame).settings = s.settings ∧ (s.walkFrame b n frame).factory = s.factory ∧
      (s.walkFrame b n frame).free = s.free ∧ (s.walkFrame b n frame).pending = s.pending := by
  unfold State.walkFrame
  split
  · simp
  · split <;> simp

@[simp] theorem State.disposeReceived_keeps (s : State) (b : Fin 10) :
    (s.disposeReceived b).pins = s.pins ∧ (s.disposeReceived b).otp = s.otp ∧ (s.disposeReceived b).time = s.time ∧
      (s.disposeReceived b).clock = s.clock ∧ (s.disposeReceived b).prc = s.prc ∧ (s.disposeReceived b).rxp = s.rxp ∧
      (s.disposeReceived b).filters = s.filters ∧ (s.disposeReceived b).answers = s.answers ∧
      (s.disposeReceived b).templates = s.templates ∧ (s.disposeReceived b).txq = s.txq ∧
      (s.disposeReceived b).wlog = s.wlog ∧ (s.disposeReceived b).desc = s.desc ∧
      (s.disposeReceived b).lmon = s.lmon ∧ (s.disposeReceived b).shed = s.shed ∧
      (s.disposeReceived b).alarms = s.alarms ∧ (s.disposeReceived b).link = s.link ∧
      (s.disposeReceived b).events = s.events ∧ (s.disposeReceived b).settings = s.settings ∧
      (s.disposeReceived b).factory = s.factory ∧ (s.disposeReceived b).counters = s.counters ∧
      (s.disposeReceived b).free = s.free ∧ (s.disposeReceived b).pending = s.pending := by
  unfold State.disposeReceived
  split <;> simp

@[simp] theorem State.walk_keeps (s : State) (b : Fin 10) (n : Nat) :
    (s.walk b n).pins = s.pins ∧ (s.walk b n).otp = s.otp ∧ (s.walk b n).time = s.time ∧
      (s.walk b n).clock = s.clock ∧ (s.walk b n).rxp = s.rxp ∧ (s.walk b n).templates = s.templates ∧
      (s.walk b n).desc = s.desc ∧ (s.walk b n).lmon = s.lmon ∧ (s.walk b n).alarms = s.alarms ∧
      (s.walk b n).link = s.link ∧ (s.walk b n).settings = s.settings ∧ (s.walk b n).factory = s.factory ∧
      (s.walk b n).free = s.free ∧ (s.walk b n).pending = s.pending := by
  simp [State.walk]

@[simp] theorem State.countFrame_keeps (s : State) (c : Counter) :
    (s.countFrame c).pins = s.pins ∧ (s.countFrame c).otp = s.otp ∧ (s.countFrame c).time = s.time ∧
      (s.countFrame c).clock = s.clock ∧ (s.countFrame c).prc = s.prc ∧ (s.countFrame c).rxp = s.rxp ∧
      (s.countFrame c).pool = s.pool ∧ (s.countFrame c).filters = s.filters ∧ (s.countFrame c).answers = s.answers ∧
      (s.countFrame c).templates = s.templates ∧ (s.countFrame c).txq = s.txq ∧ (s.countFrame c).wlog = s.wlog ∧
      (s.countFrame c).desc = s.desc ∧ (s.countFrame c).lmon = s.lmon ∧ (s.countFrame c).alarms = s.alarms ∧
      (s.countFrame c).link = s.link ∧ (s.countFrame c).events = s.events ∧ (s.countFrame c).settings = s.settings ∧
      (s.countFrame c).factory = s.factory ∧ (s.countFrame c).free = s.free ∧ (s.countFrame c).pending = s.pending := by
  unfold State.countFrame
  dsimp only
  split <;> simp

@[simp] theorem State.endStored_keeps (s : State) (b : Fin 10) (f : RxFrame) :
    (s.endStored b f).pins = s.pins ∧ (s.endStored b f).otp = s.otp ∧ (s.endStored b f).time = s.time ∧
      (s.endStored b f).clock = s.clock ∧ (s.endStored b f).templates = s.templates ∧
      (s.endStored b f).desc = s.desc ∧ (s.endStored b f).lmon = s.lmon ∧ (s.endStored b f).alarms = s.alarms ∧
      (s.endStored b f).link = s.link ∧ (s.endStored b f).settings = s.settings ∧
      (s.endStored b f).factory = s.factory ∧ (s.endStored b f).free = s.free ∧ (s.endStored b f).pending = s.pending := by
  unfold State.endStored
  dsimp only
  split <;> simp

end Sys2Proof.Machine
end

