-- ==== Sys2Proof/Laws/Runs.lean ====
section
/-! SUPPORT. What each request, and HLI at the end of an event, leaves as it was. -/

namespace Sys2Proof.Machine

@[simp] theorem runIdentify_keeps (s : State) (body : List Byte) :
    (runIdentify body s).pins = s.pins ∧ (runIdentify body s).otp = s.otp ∧ (runIdentify body s).time = s.time ∧
      (runIdentify body s).clock = s.clock ∧ (runIdentify body s).prc = s.prc ∧ (runIdentify body s).rxp = s.rxp ∧
      (runIdentify body s).pool = s.pool ∧ (runIdentify body s).filters = s.filters ∧
      (runIdentify body s).answers = s.answers ∧ (runIdentify body s).templates = s.templates ∧
      (runIdentify body s).txq = s.txq ∧ (runIdentify body s).wlog = s.wlog ∧ (runIdentify body s).desc = s.desc ∧
      (runIdentify body s).lmon = s.lmon ∧ (runIdentify body s).shed = s.shed ∧
      (runIdentify body s).alarms = s.alarms ∧ (runIdentify body s).events = s.events ∧
      (runIdentify body s).settings = s.settings ∧ (runIdentify body s).factory = s.factory ∧
      (runIdentify body s).counters = s.counters ∧ (runIdentify body s).free = s.free ∧
      (runIdentify body s).pending = s.pending := by
  unfold runIdentify
  try dsimp only
  (repeat' split) <;> simp

@[simp] theorem runStatus_keeps (s : State) (body : List Byte) :
    (runStatus body s).pins = s.pins ∧ (runStatus body s).otp = s.otp ∧ (runStatus body s).time = s.time ∧
      (runStatus body s).clock = s.clock ∧ (runStatus body s).prc = s.prc ∧ (runStatus body s).rxp = s.rxp ∧
      (runStatus body s).pool = s.pool ∧ (runStatus body s).filters = s.filters ∧
      (runStatus body s).answers = s.answers ∧ (runStatus body s).templates = s.templates ∧
      (runStatus body s).txq = s.txq ∧ (runStatus body s).wlog = s.wlog ∧ (runStatus body s).desc = s.desc ∧
      (runStatus body s).lmon = s.lmon ∧ (runStatus body s).shed = s.shed ∧ (runStatus body s).alarms = s.alarms ∧
      (runStatus body s).events = s.events ∧ (runStatus body s).settings = s.settings ∧
      (runStatus body s).factory = s.factory ∧ (runStatus body s).counters = s.counters ∧
      (runStatus body s).free = s.free ∧ (runStatus body s).pending = s.pending := by
  unfold runStatus
  try dsimp only
  (repeat' split) <;> simp

@[simp] theorem runSettingGet_keeps (s : State) (body : List Byte) :
    (runSettingGet body s).pins = s.pins ∧ (runSettingGet body s).otp = s.otp ∧
      (runSettingGet body s).time = s.time ∧ (runSettingGet body s).clock = s.clock ∧
      (runSettingGet body s).prc = s.prc ∧ (runSettingGet body s).rxp = s.rxp ∧
      (runSettingGet body s).pool = s.pool ∧ (runSettingGet body s).filters = s.filters ∧
      (runSettingGet body s).answers = s.answers ∧ (runSettingGet body s).templates = s.templates ∧
      (runSettingGet body s).txq = s.txq ∧ (runSettingGet body s).wlog = s.wlog ∧
      (runSettingGet body s).desc = s.desc ∧ (runSettingGet body s).lmon = s.lmon ∧
      (runSettingGet body s).shed = s.shed ∧ (runSettingGet body s).alarms = s.alarms ∧
      (runSettingGet body s).events = s.events ∧ (runSettingGet body s).settings = s.settings ∧
      (runSettingGet body s).factory = s.factory ∧ (runSettingGet body s).counters = s.counters ∧
      (runSettingGet body s).free = s.free ∧ (runSettingGet body s).pending = s.pending := by
  unfold runSettingGet
  try dsimp only
  (repeat' split) <;> simp

@[simp] theorem runAnswerGet_keeps (s : State) (body : List Byte) :
    (runAnswerGet body s).pins = s.pins ∧ (runAnswerGet body s).otp = s.otp ∧ (runAnswerGet body s).time = s.time ∧
      (runAnswerGet body s).clock = s.clock ∧ (runAnswerGet body s).prc = s.prc ∧ (runAnswerGet body s).rxp = s.rxp ∧
      (runAnswerGet body s).pool = s.pool ∧ (runAnswerGet body s).filters = s.filters ∧
      (runAnswerGet body s).answers = s.answers ∧ (runAnswerGet body s).templates = s.templates ∧
      (runAnswerGet body s).txq = s.txq ∧ (runAnswerGet body s).wlog = s.wlog ∧ (runAnswerGet body s).desc = s.desc ∧
      (runAnswerGet body s).lmon = s.lmon ∧ (runAnswerGet body s).shed = s.shed ∧
      (runAnswerGet body s).alarms = s.alarms ∧ (runAnswerGet body s).events = s.events ∧
      (runAnswerGet body s).settings = s.settings ∧ (runAnswerGet body s).factory = s.factory ∧
      (runAnswerGet body s).counters = s.counters ∧ (runAnswerGet body s).free = s.free ∧
      (runAnswerGet body s).pending = s.pending := by
  unfold runAnswerGet
  try dsimp only
  (repeat' split) <;> simp

@[simp] theorem runTemplateGet_keeps (s : State) (body : List Byte) :
    (runTemplateGet body s).pins = s.pins ∧ (runTemplateGet body s).otp = s.otp ∧
      (runTemplateGet body s).time = s.time ∧ (runTemplateGet body s).clock = s.clock ∧
      (runTemplateGet body s).prc = s.prc ∧ (runTemplateGet body s).rxp = s.rxp ∧
      (runTemplateGet body s).pool = s.pool ∧ (runTemplateGet body s).filters = s.filters ∧
      (runTemplateGet body s).answers = s.answers ∧ (runTemplateGet body s).templates = s.templates ∧
      (runTemplateGet body s).txq = s.txq ∧ (runTemplateGet body s).wlog = s.wlog ∧
      (runTemplateGet body s).desc = s.desc ∧ (runTemplateGet body s).lmon = s.lmon ∧
      (runTemplateGet body s).shed = s.shed ∧ (runTemplateGet body s).alarms = s.alarms ∧
      (runTemplateGet body s).events = s.events ∧ (runTemplateGet body s).settings = s.settings ∧
      (runTemplateGet body s).factory = s.factory ∧ (runTemplateGet body s).counters = s.counters ∧
      (runTemplateGet body s).free = s.free ∧ (runTemplateGet body s).pending = s.pending := by
  unfold runTemplateGet
  try dsimp only
  (repeat' split) <;> simp

@[simp] theorem runFilterGet_keeps (s : State) (body : List Byte) :
    (runFilterGet body s).pins = s.pins ∧ (runFilterGet body s).otp = s.otp ∧ (runFilterGet body s).time = s.time ∧
      (runFilterGet body s).clock = s.clock ∧ (runFilterGet body s).prc = s.prc ∧ (runFilterGet body s).rxp = s.rxp ∧
      (runFilterGet body s).pool = s.pool ∧ (runFilterGet body s).filters = s.filters ∧
      (runFilterGet body s).answers = s.answers ∧ (runFilterGet body s).templates = s.templates ∧
      (runFilterGet body s).txq = s.txq ∧ (runFilterGet body s).wlog = s.wlog ∧ (runFilterGet body s).desc = s.desc ∧
      (runFilterGet body s).lmon = s.lmon ∧ (runFilterGet body s).shed = s.shed ∧
      (runFilterGet body s).alarms = s.alarms ∧ (runFilterGet body s).events = s.events ∧
      (runFilterGet body s).settings = s.settings ∧ (runFilterGet body s).factory = s.factory ∧
      (runFilterGet body s).counters = s.counters ∧ (runFilterGet body s).free = s.free ∧
      (runFilterGet body s).pending = s.pending := by
  unfold runFilterGet
  try dsimp only
  (repeat' split) <;> simp

@[simp] theorem runDescRead_keeps (s : State) (body : List Byte) :
    (runDescRead body s).pins = s.pins ∧ (runDescRead body s).otp = s.otp ∧ (runDescRead body s).time = s.time ∧
      (runDescRead body s).clock = s.clock ∧ (runDescRead body s).prc = s.prc ∧ (runDescRead body s).rxp = s.rxp ∧
      (runDescRead body s).pool = s.pool ∧ (runDescRead body s).filters = s.filters ∧
      (runDescRead body s).answers = s.answers ∧ (runDescRead body s).templates = s.templates ∧
      (runDescRead body s).txq = s.txq ∧ (runDescRead body s).wlog = s.wlog ∧ (runDescRead body s).desc = s.desc ∧
      (runDescRead body s).lmon = s.lmon ∧ (runDescRead body s).shed = s.shed ∧
      (runDescRead body s).alarms = s.alarms ∧ (runDescRead body s).events = s.events ∧
      (runDescRead body s).settings = s.settings ∧ (runDescRead body s).factory = s.factory ∧
      (runDescRead body s).counters = s.counters ∧ (runDescRead body s).free = s.free ∧
      (runDescRead body s).pending = s.pending := by
  unfold runDescRead
  try dsimp only
  (repeat' split) <;> simp

@[simp] theorem runCaptureGet_keeps (s : State) (body : List Byte) :
    (runCaptureGet body s).pins = s.pins ∧ (runCaptureGet body s).otp = s.otp ∧
      (runCaptureGet body s).time = s.time ∧ (runCaptureGet body s).clock = s.clock ∧
      (runCaptureGet body s).prc = s.prc ∧ (runCaptureGet body s).rxp = s.rxp ∧
      (runCaptureGet body s).pool = s.pool ∧ (runCaptureGet body s).filters = s.filters ∧
      (runCaptureGet body s).answers = s.answers ∧ (runCaptureGet body s).templates = s.templates ∧
      (runCaptureGet body s).txq = s.txq ∧ (runCaptureGet body s).wlog = s.wlog ∧
      (runCaptureGet body s).desc = s.desc ∧ (runCaptureGet body s).lmon = s.lmon ∧
      (runCaptureGet body s).shed = s.shed ∧ (runCaptureGet body s).alarms = s.alarms ∧
      (runCaptureGet body s).events = s.events ∧ (runCaptureGet body s).settings = s.settings ∧
      (runCaptureGet body s).factory = s.factory ∧ (runCaptureGet body s).counters = s.counters ∧
      (runCaptureGet body s).free = s.free ∧ (runCaptureGet body s).pending = s.pending := by
  unfold runCaptureGet
  try dsimp only
  (repeat' split) <;> simp

@[simp] theorem runCountersGet_keeps (s : State) (body : List Byte) :
    (runCountersGet body s).pins = s.pins ∧ (runCountersGet body s).otp = s.otp ∧
      (runCountersGet body s).time = s.time ∧ (runCountersGet body s).clock = s.clock ∧
      (runCountersGet body s).prc = s.prc ∧ (runCountersGet body s).rxp = s.rxp ∧
      (runCountersGet body s).pool = s.pool ∧ (runCountersGet body s).filters = s.filters ∧
      (runCountersGet body s).answers = s.answers ∧ (runCountersGet body s).templates = s.templates ∧
      (runCountersGet body s).txq = s.txq ∧ (runCountersGet body s).wlog = s.wlog ∧
      (runCountersGet body s).desc = s.desc ∧ (runCountersGet body s).lmon = s.lmon ∧
      (runCountersGet body s).shed = s.shed ∧ (runCountersGet body s).alarms = s.alarms ∧
      (runCountersGet body s).events = s.events ∧ (runCountersGet body s).settings = s.settings ∧
      (runCountersGet body s).factory = s.factory ∧ (runCountersGet body s).counters = s.counters ∧
      (runCountersGet body s).free = s.free ∧ (runCountersGet body s).pending = s.pending := by
  unfold runCountersGet
  try dsimp only
  (repeat' split) <;> simp

@[simp] theorem runEventsGet_keeps (s : State) (body : List Byte) :
    (runEventsGet body s).pins = s.pins ∧ (runEventsGet body s).otp = s.otp ∧ (runEventsGet body s).time = s.time ∧
      (runEventsGet body s).clock = s.clock ∧ (runEventsGet body s).prc = s.prc ∧ (runEventsGet body s).rxp = s.rxp ∧
      (runEventsGet body s).pool = s.pool ∧ (runEventsGet body s).filters = s.filters ∧
      (runEventsGet body s).answers = s.answers ∧ (runEventsGet body s).templates = s.templates ∧
      (runEventsGet body s).txq = s.txq ∧ (runEventsGet body s).wlog = s.wlog ∧ (runEventsGet body s).desc = s.desc ∧
      (runEventsGet body s).lmon = s.lmon ∧ (runEventsGet body s).shed = s.shed ∧
      (runEventsGet body s).alarms = s.alarms ∧ (runEventsGet body s).events = s.events ∧
      (runEventsGet body s).settings = s.settings ∧ (runEventsGet body s).factory = s.factory ∧
      (runEventsGet body s).counters = s.counters ∧ (runEventsGet body s).free = s.free ∧
      (runEventsGet body s).pending = s.pending := by
  unfold runEventsGet
  try dsimp only
  (repeat' split) <;> simp

@[simp] theorem runAlarmGet_keeps (s : State) (body : List Byte) :
    (runAlarmGet body s).pins = s.pins ∧ (runAlarmGet body s).otp = s.otp ∧ (runAlarmGet body s).time = s.time ∧
      (runAlarmGet body s).clock = s.clock ∧ (runAlarmGet body s).prc = s.prc ∧ (runAlarmGet body s).rxp = s.rxp ∧
      (runAlarmGet body s).pool = s.pool ∧ (runAlarmGet body s).filters = s.filters ∧
      (runAlarmGet body s).answers = s.answers ∧ (runAlarmGet body s).templates = s.templates ∧
      (runAlarmGet body s).txq = s.txq ∧ (runAlarmGet body s).wlog = s.wlog ∧ (runAlarmGet body s).desc = s.desc ∧
      (runAlarmGet body s).lmon = s.lmon ∧ (runAlarmGet body s).shed = s.shed ∧
      (runAlarmGet body s).alarms = s.alarms ∧ (runAlarmGet body s).events = s.events ∧
      (runAlarmGet body s).settings = s.settings ∧ (runAlarmGet body s).factory = s.factory ∧
      (runAlarmGet body s).counters = s.counters ∧ (runAlarmGet body s).free = s.free ∧
      (runAlarmGet body s).pending = s.pending := by
  unfold runAlarmGet
  try dsimp only
  (repeat' split) <;> simp

@[simp] theorem runLinkGet_keeps (s : State) (body : List Byte) :
    (runLinkGet body s).pins = s.pins ∧ (runLinkGet body s).otp = s.otp ∧ (runLinkGet body s).time = s.time ∧
      (runLinkGet body s).clock = s.clock ∧ (runLinkGet body s).prc = s.prc ∧ (runLinkGet body s).rxp = s.rxp ∧
      (runLinkGet body s).pool = s.pool ∧ (runLinkGet body s).filters = s.filters ∧
      (runLinkGet body s).answers = s.answers ∧ (runLinkGet body s).templates = s.templates ∧
      (runLinkGet body s).txq = s.txq ∧ (runLinkGet body s).wlog = s.wlog ∧ (runLinkGet body s).desc = s.desc ∧
      (runLinkGet body s).lmon = s.lmon ∧ (runLinkGet body s).shed = s.shed ∧ (runLinkGet body s).alarms = s.alarms ∧
      (runLinkGet body s).events = s.events ∧ (runLinkGet body s).settings = s.settings ∧
      (runLinkGet body s).factory = s.factory ∧ (runLinkGet body s).counters = s.counters ∧
      (runLinkGet body s).free = s.free ∧ (runLinkGet body s).pending = s.pending := by
  unfold runLinkGet
  try dsimp only
  (repeat' split) <;> simp

@[simp] theorem runSettingSet_keeps (s : State) (body : List Byte) :
    (runSettingSet body s).pins = s.pins ∧ (runSettingSet body s).otp = s.otp ∧
      (runSettingSet body s).time = s.time ∧ (runSettingSet body s).clock = s.clock ∧
      (runSettingSet body s).prc = s.prc ∧ (runSettingSet body s).rxp = s.rxp ∧
      (runSettingSet body s).pool = s.pool ∧ (runSettingSet body s).filters = s.filters ∧
      (runSettingSet body s).answers = s.answers ∧ (runSettingSet body s).templates = s.templates ∧
      (runSettingSet body s).txq = s.txq ∧ (runSettingSet body s).wlog = s.wlog ∧
      (runSettingSet body s).desc = s.desc ∧ (runSettingSet body s).lmon = s.lmon ∧
      (runSettingSet body s).shed = s.shed ∧ (runSettingSet body s).alarms = s.alarms ∧
      (runSettingSet body s).events = s.events ∧ (runSettingSet body s).factory = s.factory ∧
      (runSettingSet body s).counters = s.counters ∧ (runSettingSet body s).free = s.free ∧
      (runSettingSet body s).pending = s.pending := by
  unfold runSettingSet
  try dsimp only
  (repeat' split) <;> simp

@[simp] theorem runCountersClear_keeps (s : State) (body : List Byte) :
    (runCountersClear body s).pins = s.pins ∧ (runCountersClear body s).otp = s.otp ∧
      (runCountersClear body s).time = s.time ∧ (runCountersClear body s).clock = s.clock ∧
      (runCountersClear body s).prc = s.prc ∧ (runCountersClear body s).rxp = s.rxp ∧
      (runCountersClear body s).pool = s.pool ∧ (runCountersClear body s).filters = s.filters ∧
      (runCountersClear body s).answers = s.answers ∧ (runCountersClear body s).templates = s.templates ∧
      (runCountersClear body s).txq = s.txq ∧ (runCountersClear body s).wlog = s.wlog ∧
      (runCountersClear body s).desc = s.desc ∧ (runCountersClear body s).lmon = s.lmon ∧
      (runCountersClear body s).shed = s.shed ∧ (runCountersClear body s).alarms = s.alarms ∧
      (runCountersClear body s).events = s.events ∧ (runCountersClear body s).settings = s.settings ∧
      (runCountersClear body s).factory = s.factory ∧ (runCountersClear body s).free = s.free ∧
      (runCountersClear body s).pending = s.pending := by
  unfold runCountersClear
  try dsimp only
  (repeat' split) <;> simp

@[simp] theorem runEventsClear_keeps (s : State) (body : List Byte) :
    (runEventsClear body s).pins = s.pins ∧ (runEventsClear body s).otp = s.otp ∧
      (runEventsClear body s).time = s.time ∧ (runEventsClear body s).clock = s.clock ∧
      (runEventsClear body s).prc = s.prc ∧ (runEventsClear body s).rxp = s.rxp ∧
      (runEventsClear body s).pool = s.pool ∧ (runEventsClear body s).filters = s.filters ∧
      (runEventsClear body s).answers = s.answers ∧ (runEventsClear body s).templates = s.templates ∧
      (runEventsClear body s).txq = s.txq ∧ (runEventsClear body s).wlog = s.wlog ∧
      (runEventsClear body s).desc = s.desc ∧ (runEventsClear body s).lmon = s.lmon ∧
      (runEventsClear body s).shed = s.shed ∧ (runEventsClear body s).alarms = s.alarms ∧
      (runEventsClear body s).settings = s.settings ∧ (runEventsClear body s).factory = s.factory ∧
      (runEventsClear body s).counters = s.counters ∧ (runEventsClear body s).free = s.free ∧
      (runEventsClear body s).pending = s.pending := by
  unfold runEventsClear
  try dsimp only
  (repeat' split) <;> simp

@[simp] theorem runNoticeMask_keeps (s : State) (body : List Byte) :
    (runNoticeMask body s).pins = s.pins ∧ (runNoticeMask body s).otp = s.otp ∧
      (runNoticeMask body s).time = s.time ∧ (runNoticeMask body s).clock = s.clock ∧
      (runNoticeMask body s).prc = s.prc ∧ (runNoticeMask body s).rxp = s.rxp ∧
      (runNoticeMask body s).pool = s.pool ∧ (runNoticeMask body s).filters = s.filters ∧
      (runNoticeMask body s).answers = s.answers ∧ (runNoticeMask body s).templates = s.templates ∧
      (runNoticeMask body s).txq = s.txq ∧ (runNoticeMask body s).wlog = s.wlog ∧
      (runNoticeMask body s).desc = s.desc ∧ (runNoticeMask body s).lmon = s.lmon ∧
      (runNoticeMask body s).shed = s.shed ∧ (runNoticeMask body s).alarms = s.alarms ∧
      (runNoticeMask body s).settings = s.settings ∧ (runNoticeMask body s).factory = s.factory ∧
      (runNoticeMask body s).counters = s.counters ∧ (runNoticeMask body s).free = s.free ∧
      (runNoticeMask body s).pending = s.pending := by
  unfold runNoticeMask
  try dsimp only
  (repeat' split) <;> simp

@[simp] theorem runAlarmSet_keeps (s : State) (body : List Byte) :
    (runAlarmSet body s).pins = s.pins ∧ (runAlarmSet body s).otp = s.otp ∧ (runAlarmSet body s).time = s.time ∧
      (runAlarmSet body s).clock = s.clock ∧ (runAlarmSet body s).prc = s.prc ∧ (runAlarmSet body s).rxp = s.rxp ∧
      (runAlarmSet body s).pool = s.pool ∧ (runAlarmSet body s).filters = s.filters ∧
      (runAlarmSet body s).answers = s.answers ∧ (runAlarmSet body s).templates = s.templates ∧
      (runAlarmSet body s).txq = s.txq ∧ (runAlarmSet body s).wlog = s.wlog ∧ (runAlarmSet body s).desc = s.desc ∧
      (runAlarmSet body s).lmon = s.lmon ∧ (runAlarmSet body s).shed = s.shed ∧
      (runAlarmSet body s).events = s.events ∧ (runAlarmSet body s).settings = s.settings ∧
      (runAlarmSet body s).factory = s.factory ∧ (runAlarmSet body s).counters = s.counters ∧
      (runAlarmSet body s).free = s.free ∧ (runAlarmSet body s).pending = s.pending := by
  unfold runAlarmSet
  try dsimp only
  (repeat' split) <;> simp

@[simp] theorem runAlarmStop_keeps (s : State) (body : List Byte) :
    (runAlarmStop body s).pins = s.pins ∧ (runAlarmStop body s).otp = s.otp ∧ (runAlarmStop body s).time = s.time ∧
      (runAlarmStop body s).clock = s.clock ∧ (runAlarmStop body s).prc = s.prc ∧ (runAlarmStop body s).rxp = s.rxp ∧
      (runAlarmStop body s).pool = s.pool ∧ (runAlarmStop body s).filters = s.filters ∧
      (runAlarmStop body s).answers = s.answers ∧ (runAlarmStop body s).templates = s.templates ∧
      (runAlarmStop body s).txq = s.txq ∧ (runAlarmStop body s).wlog = s.wlog ∧ (runAlarmStop body s).desc = s.desc ∧
      (runAlarmStop body s).lmon = s.lmon ∧ (runAlarmStop body s).shed = s.shed ∧
      (runAlarmStop body s).events = s.events ∧ (runAlarmStop body s).settings = s.settings ∧
      (runAlarmStop body s).factory = s.factory ∧ (runAlarmStop body s).counters = s.counters ∧
      (runAlarmStop body s).free = s.free ∧ (runAlarmStop body s).pending = s.pending := by
  unfold runAlarmStop
  try dsimp only
  (repeat' split) <;> simp

@[simp] theorem runFilterInsert_keeps (s : State) (body : List Byte) :
    (runFilterInsert body s).pins = s.pins ∧ (runFilterInsert body s).otp = s.otp ∧
      (runFilterInsert body s).time = s.time ∧ (runFilterInsert body s).clock = s.clock ∧
      (runFilterInsert body s).prc = s.prc ∧ (runFilterInsert body s).rxp = s.rxp ∧
      (runFilterInsert body s).pool = s.pool ∧ (runFilterInsert body s).answers = s.answers ∧
      (runFilterInsert body s).templates = s.templates ∧ (runFilterInsert body s).txq = s.txq ∧
      (runFilterInsert body s).wlog = s.wlog ∧ (runFilterInsert body s).desc = s.desc ∧
      (runFilterInsert body s).lmon = s.lmon ∧ (runFilterInsert body s).shed = s.shed ∧
      (runFilterInsert body s).alarms = s.alarms ∧ (runFilterInsert body s).events = s.events ∧
      (runFilterInsert body s).settings = s.settings ∧ (runFilterInsert body s).factory = s.factory ∧
      (runFilterInsert body s).counters = s.counters ∧ (runFilterInsert body s).free = s.free ∧
      (runFilterInsert body s).pending = s.pending := by
  unfold runFilterInsert
  try dsimp only
  (repeat' split) <;> simp

@[simp] theorem runFilterRemove_keeps (s : State) (body : List Byte) :
    (runFilterRemove body s).pins = s.pins ∧ (runFilterRemove body s).otp = s.otp ∧
      (runFilterRemove body s).time = s.time ∧ (runFilterRemove body s).clock = s.clock ∧
      (runFilterRemove body s).prc = s.prc ∧ (runFilterRemove body s).rxp = s.rxp ∧
      (runFilterRemove body s).pool = s.pool ∧ (runFilterRemove body s).answers = s.answers ∧
      (runFilterRemove body s).templates = s.templates ∧ (runFilterRemove body s).txq = s.txq ∧
      (runFilterRemove body s).wlog = s.wlog ∧ (runFilterRemove body s).desc = s.desc ∧
      (runFilterRemove body s).lmon = s.lmon ∧ (runFilterRemove body s).shed = s.shed ∧
      (runFilterRemove body s).alarms = s.alarms ∧ (runFilterRemove body s).events = s.events ∧
      (runFilterRemove body s).settings = s.settings ∧ (runFilterRemove body s).factory = s.factory ∧
      (runFilterRemove body s).counters = s.counters ∧ (runFilterRemove body s).free = s.free ∧
      (runFilterRemove body s).pending = s.pending := by
  unfold runFilterRemove
  try dsimp only
  (repeat' split) <;> simp

@[simp] theorem runAnswerSet_keeps (s : State) (body : List Byte) :
    (runAnswerSet body s).pins = s.pins ∧ (runAnswerSet body s).otp = s.otp ∧ (runAnswerSet body s).time = s.time ∧
      (runAnswerSet body s).clock = s.clock ∧ (runAnswerSet body s).prc = s.prc ∧ (runAnswerSet body s).rxp = s.rxp ∧
      (runAnswerSet body s).pool = s.pool ∧ (runAnswerSet body s).filters = s.filters ∧
      (runAnswerSet body s).templates = s.templates ∧ (runAnswerSet body s).txq = s.txq ∧
      (runAnswerSet body s).wlog = s.wlog ∧ (runAnswerSet body s).desc = s.desc ∧
      (runAnswerSet body s).lmon = s.lmon ∧ (runAnswerSet body s).shed = s.shed ∧
      (runAnswerSet body s).alarms = s.alarms ∧ (runAnswerSet body s).events = s.events ∧
      (runAnswerSet body s).settings = s.settings ∧ (runAnswerSet body s).factory = s.factory ∧
      (runAnswerSet body s).counters = s.counters ∧ (runAnswerSet body s).free = s.free ∧
      (runAnswerSet body s).pending = s.pending := by
  unfold runAnswerSet
  try dsimp only
  (repeat' split) <;> simp

@[simp] theorem runAnswerClear_keeps (s : State) (body : List Byte) :
    (runAnswerClear body s).pins = s.pins ∧ (runAnswerClear body s).otp = s.otp ∧
      (runAnswerClear body s).time = s.time ∧ (runAnswerClear body s).clock = s.clock ∧
      (runAnswerClear body s).prc = s.prc ∧ (runAnswerClear body s).rxp = s.rxp ∧
      (runAnswerClear body s).pool = s.pool ∧ (runAnswerClear body s).filters = s.filters ∧
      (runAnswerClear body s).templates = s.templates ∧ (runAnswerClear body s).txq = s.txq ∧
      (runAnswerClear body s).wlog = s.wlog ∧ (runAnswerClear body s).desc = s.desc ∧
      (runAnswerClear body s).lmon = s.lmon ∧ (runAnswerClear body s).shed = s.shed ∧
      (runAnswerClear body s).alarms = s.alarms ∧ (runAnswerClear body s).events = s.events ∧
      (runAnswerClear body s).settings = s.settings ∧ (runAnswerClear body s).factory = s.factory ∧
      (runAnswerClear body s).counters = s.counters ∧ (runAnswerClear body s).free = s.free ∧
      (runAnswerClear body s).pending = s.pending := by
  unfold runAnswerClear
  try dsimp only
  (repeat' split) <;> simp

@[simp] theorem State.defineTemplate_keeps (s : State) (form : TemplateForm) :
    (s.defineTemplate form).pins = s.pins ∧ (s.defineTemplate form).otp = s.otp ∧
      (s.defineTemplate form).time = s.time ∧ (s.defineTemplate form).clock = s.clock ∧
      (s.defineTemplate form).prc = s.prc ∧ (s.defineTemplate form).rxp = s.rxp ∧
      (s.defineTemplate form).pool = s.pool ∧ (s.defineTemplate form).filters = s.filters ∧
      (s.defineTemplate form).answers = s.answers ∧ (s.defineTemplate form).txq = s.txq ∧
      (s.defineTemplate form).wlog = s.wlog ∧ (s.defineTemplate form).desc = s.desc ∧
      (s.defineTemplate form).lmon = s.lmon ∧ (s.defineTemplate form).shed = s.shed ∧
      (s.defineTemplate form).alarms = s.alarms ∧ (s.defineTemplate form).events = s.events ∧
      (s.defineTemplate form).settings = s.settings ∧ (s.defineTemplate form).factory = s.factory ∧
      (s.defineTemplate form).counters = s.counters ∧ (s.defineTemplate form).free = s.free ∧
      (s.defineTemplate form).pending = s.pending := by
  unfold State.defineTemplate
  (repeat' split) <;> simp

@[simp] theorem State.undefineTemplate_keeps (s : State) (form : TemplateForm) :
    (s.undefineTemplate form).pins = s.pins ∧ (s.undefineTemplate form).otp = s.otp ∧
      (s.undefineTemplate form).time = s.time ∧ (s.undefineTemplate form).clock = s.clock ∧
      (s.undefineTemplate form).prc = s.prc ∧ (s.undefineTemplate form).rxp = s.rxp ∧
      (s.undefineTemplate form).pool = s.pool ∧ (s.undefineTemplate form).filters = s.filters ∧
      (s.undefineTemplate form).answers = s.answers ∧ (s.undefineTemplate form).txq = s.txq ∧
      (s.undefineTemplate form).wlog = s.wlog ∧ (s.undefineTemplate form).desc = s.desc ∧
      (s.undefineTemplate form).lmon = s.lmon ∧ (s.undefineTemplate form).shed = s.shed ∧
      (s.undefineTemplate form).alarms = s.alarms ∧ (s.undefineTemplate form).events = s.events ∧
      (s.undefineTemplate form).settings = s.settings ∧ (s.undefineTemplate form).factory = s.factory ∧
      (s.undefineTemplate form).counters = s.counters ∧ (s.undefineTemplate form).free = s.free ∧
      (s.undefineTemplate form).pending = s.pending := by
  unfold State.undefineTemplate
  (repeat' split) <;> simp

@[simp] theorem runTemplateSet_keeps (s : State) (body : List Byte) :
    (runTemplateSet body s).pins = s.pins ∧ (runTemplateSet body s).otp = s.otp ∧
      (runTemplateSet body s).time = s.time ∧ (runTemplateSet body s).clock = s.clock ∧
      (runTemplateSet body s).prc = s.prc ∧ (runTemplateSet body s).rxp = s.rxp ∧
      (runTemplateSet body s).pool = s.pool ∧ (runTemplateSet body s).filters = s.filters ∧
      (runTemplateSet body s).answers = s.answers ∧ (runTemplateSet body s).txq = s.txq ∧
      (runTemplateSet body s).wlog = s.wlog ∧ (runTemplateSet body s).desc = s.desc ∧
      (runTemplateSet body s).lmon = s.lmon ∧ (runTemplateSet body s).shed = s.shed ∧
      (runTemplateSet body s).alarms = s.alarms ∧ (runTemplateSet body s).events = s.events ∧
      (runTemplateSet body s).settings = s.settings ∧ (runTemplateSet body s).factory = s.factory ∧
      (runTemplateSet body s).counters = s.counters ∧ (runTemplateSet body s).free = s.free ∧
      (runTemplateSet body s).pending = s.pending := by
  unfold runTemplateSet
  try dsimp only
  (repeat' split) <;> simp

@[simp] theorem runDescOpen_keeps (s : State) (body : List Byte) :
    (runDescOpen body s).pins = s.pins ∧ (runDescOpen body s).otp = s.otp ∧ (runDescOpen body s).time = s.time ∧
      (runDescOpen body s).clock = s.clock ∧ (runDescOpen body s).prc = s.prc ∧ (runDescOpen body s).rxp = s.rxp ∧
      (runDescOpen body s).pool = s.pool ∧ (runDescOpen body s).filters = s.filters ∧
      (runDescOpen body s).answers = s.answers ∧ (runDescOpen body s).templates = s.templates ∧
      (runDescOpen body s).txq = s.txq ∧ (runDescOpen body s).wlog = s.wlog ∧ (runDescOpen body s).lmon = s.lmon ∧
      (runDescOpen body s).shed = s.shed ∧ (runDescOpen body s).alarms = s.alarms ∧
      (runDescOpen body s).events = s.events ∧ (runDescOpen body s).settings = s.settings ∧
      (runDescOpen body s).factory = s.factory ∧ (runDescOpen body s).counters = s.counters ∧
      (runDescOpen body s).free = s.free ∧ (runDescOpen body s).pending = s.pending := by
  unfold runDescOpen
  try dsimp only
  (repeat' split) <;> simp

@[simp] theorem runDescWrite_keeps (s : State) (body : List Byte) :
    (runDescWrite body s).pins = s.pins ∧ (runDescWrite body s).otp = s.otp ∧ (runDescWrite body s).time = s.time ∧
      (runDescWrite body s).clock = s.clock ∧ (runDescWrite body s).prc = s.prc ∧ (runDescWrite body s).rxp = s.rxp ∧
      (runDescWrite body s).pool = s.pool ∧ (runDescWrite body s).filters = s.filters ∧
      (runDescWrite body s).answers = s.answers ∧ (runDescWrite body s).templates = s.templates ∧
      (runDescWrite body s).txq = s.txq ∧ (runDescWrite body s).wlog = s.wlog ∧ (runDescWrite body s).lmon = s.lmon ∧
      (runDescWrite body s).shed = s.shed ∧ (runDescWrite body s).alarms = s.alarms ∧
      (runDescWrite body s).events = s.events ∧ (runDescWrite body s).settings = s.settings ∧
      (runDescWrite body s).factory = s.factory ∧ (runDescWrite body s).counters = s.counters ∧
      (runDescWrite body s).free = s.free ∧ (runDescWrite body s).pending = s.pending := by
  unfold runDescWrite
  try dsimp only
  (repeat' split) <;> simp

@[simp] theorem runDescPublish_keeps (s : State) (body : List Byte) :
    (runDescPublish body s).pins = s.pins ∧ (runDescPublish body s).otp = s.otp ∧
      (runDescPublish body s).time = s.time ∧ (runDescPublish body s).clock = s.clock ∧
      (runDescPublish body s).prc = s.prc ∧ (runDescPublish body s).rxp = s.rxp ∧
      (runDescPublish body s).pool = s.pool ∧ (runDescPublish body s).filters = s.filters ∧
      (runDescPublish body s).answers = s.answers ∧ (runDescPublish body s).templates = s.templates ∧
      (runDescPublish body s).txq = s.txq ∧ (runDescPublish body s).wlog = s.wlog ∧
      (runDescPublish body s).lmon = s.lmon ∧ (runDescPublish body s).shed = s.shed ∧
      (runDescPublish body s).alarms = s.alarms ∧ (runDescPublish body s).events = s.events ∧
      (runDescPublish body s).settings = s.settings ∧ (runDescPublish body s).factory = s.factory ∧
      (runDescPublish body s).counters = s.counters ∧ (runDescPublish body s).free = s.free ∧
      (runDescPublish body s).pending = s.pending := by
  unfold runDescPublish
  try dsimp only
  (repeat' split) <;> simp

@[simp] theorem runWakelogTake_keeps (s : State) (body : List Byte) :
    (runWakelogTake body s).pins = s.pins ∧ (runWakelogTake body s).otp = s.otp ∧
      (runWakelogTake body s).time = s.time ∧ (runWakelogTake body s).clock = s.clock ∧
      (runWakelogTake body s).prc = s.prc ∧ (runWakelogTake body s).rxp = s.rxp ∧
      (runWakelogTake body s).filters = s.filters ∧ (runWakelogTake body s).answers = s.answers ∧
      (runWakelogTake body s).templates = s.templates ∧ (runWakelogTake body s).txq = s.txq ∧
      (runWakelogTake body s).desc = s.desc ∧ (runWakelogTake body s).lmon = s.lmon ∧
      (runWakelogTake body s).shed = s.shed ∧ (runWakelogTake body s).alarms = s.alarms ∧
      (runWakelogTake body s).events = s.events ∧ (runWakelogTake body s).settings = s.settings ∧
      (runWakelogTake body s).factory = s.factory ∧ (runWakelogTake body s).counters = s.counters ∧
      (runWakelogTake body s).free = s.free ∧ (runWakelogTake body s).pending = s.pending := by
  unfold runWakelogTake
  try dsimp only
  (repeat' split) <;> simp

@[simp] theorem runHandover_keeps (s : State) (body : List Byte) :
    (runHandover body s).pins = s.pins ∧ (runHandover body s).otp = s.otp ∧ (runHandover body s).time = s.time ∧
      (runHandover body s).clock = s.clock ∧ (runHandover body s).filters = s.filters ∧
      (runHandover body s).answers = s.answers ∧ (runHandover body s).templates = s.templates ∧
      (runHandover body s).wlog = s.wlog ∧ (runHandover body s).desc = s.desc ∧ (runHandover body s).lmon = s.lmon ∧
      (runHandover body s).shed = s.shed ∧ (runHandover body s).alarms = s.alarms ∧
      (runHandover body s).events = s.events ∧ (runHandover body s).settings = s.settings ∧
      (runHandover body s).factory = s.factory ∧ (runHandover body s).free = s.free ∧
      (runHandover body s).pending = s.pending := by
  unfold runHandover
  try dsimp only
  (repeat' split) <;> simp

@[simp] theorem State.beginLeaving_keeps (s : State) :
    s.beginLeaving.pins = s.pins ∧ s.beginLeaving.otp = s.otp ∧ s.beginLeaving.time = s.time ∧
      s.beginLeaving.clock = s.clock ∧ s.beginLeaving.filters = s.filters ∧ s.beginLeaving.answers = s.answers ∧
      s.beginLeaving.templates = s.templates ∧ s.beginLeaving.wlog = s.wlog ∧ s.beginLeaving.desc = s.desc ∧
      s.beginLeaving.lmon = s.lmon ∧ s.beginLeaving.shed = s.shed ∧ s.beginLeaving.alarms = s.alarms ∧
      s.beginLeaving.events = s.events ∧ s.beginLeaving.settings = s.settings ∧ s.beginLeaving.factory = s.factory ∧
      s.beginLeaving.free = s.free ∧ s.beginLeaving.pending = s.pending := by
  unfold State.beginLeaving
  dsimp only
  split <;> simp

@[simp] theorem runReclaim_keeps (s : State) (body : List Byte) :
    (runReclaim body s).pins = s.pins ∧ (runReclaim body s).otp = s.otp ∧ (runReclaim body s).time = s.time ∧
      (runReclaim body s).clock = s.clock ∧ (runReclaim body s).filters = s.filters ∧
      (runReclaim body s).answers = s.answers ∧ (runReclaim body s).templates = s.templates ∧
      (runReclaim body s).wlog = s.wlog ∧ (runReclaim body s).desc = s.desc ∧ (runReclaim body s).lmon = s.lmon ∧
      (runReclaim body s).shed = s.shed ∧ (runReclaim body s).alarms = s.alarms ∧
      (runReclaim body s).events = s.events ∧ (runReclaim body s).settings = s.settings ∧
      (runReclaim body s).factory = s.factory ∧ (runReclaim body s).free = s.free ∧
      (runReclaim body s).pending = s.pending := by
  unfold runReclaim
  try dsimp only
  (repeat' split) <;> simp

@[simp] theorem runWakeAck_keeps (s : State) (body : List Byte) :
    (runWakeAck body s).pins = s.pins ∧ (runWakeAck body s).otp = s.otp ∧ (runWakeAck body s).time = s.time ∧
      (runWakeAck body s).clock = s.clock ∧ (runWakeAck body s).rxp = s.rxp ∧ (runWakeAck body s).pool = s.pool ∧
      (runWakeAck body s).filters = s.filters ∧ (runWakeAck body s).answers = s.answers ∧
      (runWakeAck body s).templates = s.templates ∧ (runWakeAck body s).txq = s.txq ∧
      (runWakeAck body s).wlog = s.wlog ∧ (runWakeAck body s).desc = s.desc ∧ (runWakeAck body s).lmon = s.lmon ∧
      (runWakeAck body s).shed = s.shed ∧ (runWakeAck body s).alarms = s.alarms ∧
      (runWakeAck body s).events = s.events ∧ (runWakeAck body s).settings = s.settings ∧
      (runWakeAck body s).factory = s.factory ∧ (runWakeAck body s).counters = s.counters ∧
      (runWakeAck body s).free = s.free ∧ (runWakeAck body s).pending = s.pending := by
  unfold runWakeAck
  try dsimp only
  (repeat' split) <;> simp

@[simp] theorem State.resetScopes_keeps (s : State) (scope : Byte) :
    (s.resetScopes scope).pins = s.pins ∧ (s.resetScopes scope).otp = s.otp ∧ (s.resetScopes scope).time = s.time ∧
      (s.resetScopes scope).clock = s.clock ∧ (s.resetScopes scope).prc = s.prc ∧ (s.resetScopes scope).rxp = s.rxp ∧
      (s.resetScopes scope).txq = s.txq ∧ (s.resetScopes scope).lmon = s.lmon ∧ (s.resetScopes scope).shed = s.shed ∧
      (s.resetScopes scope).link = s.link ∧ (s.resetScopes scope).events = s.events ∧
      (s.resetScopes scope).factory = s.factory ∧ (s.resetScopes scope).free = s.free ∧
      (s.resetScopes scope).pending = s.pending := by
  have h : ∀ (ms : List ScopeMember) (u : State), 
    (ms.foldl (fun s m => if names scope m then s.resetMember m else s) u).pins = u.pins ∧
      (ms.foldl (fun s m => if names scope m then s.resetMember m else s) u).otp = u.otp ∧
      (ms.foldl (fun s m => if names scope m then s.resetMember m else s) u).time = u.time ∧
      (ms.foldl (fun s m => if names scope m then s.resetMember m else s) u).clock = u.clock ∧
      (ms.foldl (fun s m => if names scope m then s.resetMember m else s) u).prc = u.prc ∧
      (ms.foldl (fun s m => if names scope m then s.resetMember m else s) u).rxp = u.rxp ∧
      (ms.foldl (fun s m => if names scope m then s.resetMember m else s) u).txq = u.txq ∧
      (ms.foldl (fun s m => if names scope m then s.resetMember m else s) u).lmon = u.lmon ∧
      (ms.foldl (fun s m => if names scope m then s.resetMember m else s) u).shed = u.shed ∧
      (ms.foldl (fun s m => if names scope m then s.resetMember m else s) u).link = u.link ∧
      (ms.foldl (fun s m => if names scope m then s.resetMember m else s) u).events = u.events ∧
      (ms.foldl (fun s m => if names scope m then s.resetMember m else s) u).factory = u.factory ∧
      (ms.foldl (fun s m => if names scope m then s.resetMember m else s) u).free = u.free ∧
      (ms.foldl (fun s m => if names scope m then s.resetMember m else s) u).pending = u.pending := by
    intro ms
    induction ms with
    | nil => simp
    | cons m rest ih =>
      intro u
      simp only [List.foldl_cons]
      have := ih (if names scope m then u.resetMember m else u)
      revert this
      split <;> simp
  exact h _ s

@[simp] theorem runReset_keeps (s : State) (body : List Byte) :
    (runReset body s).pins = s.pins ∧ (runReset body s).otp = s.otp ∧ (runReset body s).time = s.time ∧
      (runReset body s).clock = s.clock ∧ (runReset body s).prc = s.prc ∧ (runReset body s).rxp = s.rxp ∧
      (runReset body s).txq = s.txq ∧ (runReset body s).lmon = s.lmon ∧ (runReset body s).shed = s.shed ∧
      (runReset body s).events = s.events ∧ (runReset body s).factory = s.factory ∧ (runReset body s).free = s.free ∧
      (runReset body s).pending = s.pending := by
  unfold runReset
  try dsimp only
  (repeat' split) <;> simp

@[simp] theorem runKind_keeps (s : State) (kind : Byte) (body : List Byte) :
    (runKind kind body s).pins = s.pins ∧ (runKind kind body s).otp = s.otp ∧ (runKind kind body s).time = s.time ∧
      (runKind kind body s).clock = s.clock ∧ (runKind kind body s).lmon = s.lmon ∧
      (runKind kind body s).shed = s.shed ∧ (runKind kind body s).factory = s.factory ∧
      (runKind kind body s).free = s.free ∧ (runKind kind body s).pending = s.pending := by
  unfold runKind
  split <;> simp

@[simp] theorem State.execute_keeps (s : State) :
    s.execute.pins = s.pins ∧ s.execute.otp = s.otp ∧ s.execute.time = s.time ∧ s.execute.clock = s.clock ∧
      s.execute.lmon = s.lmon ∧ s.execute.shed = s.shed ∧ s.execute.factory = s.factory ∧ s.execute.free = s.free ∧
      s.execute.pending = s.pending := by
  unfold State.execute
  split <;> simp

@[simp] theorem State.serve_keeps (s : State) :
    s.serve.pins = s.pins ∧ s.serve.otp = s.otp ∧ s.serve.time = s.time ∧ s.serve.clock = s.clock ∧
      s.serve.lmon = s.lmon ∧ s.serve.shed = s.shed ∧ s.serve.factory = s.factory ∧ s.serve.pending = s.pending := by
  unfold State.serve
  split <;> simp

@[simp] theorem State.settle_keeps (s : State) (together : Bool) :
    (s.settle together).pins = s.pins ∧ (s.settle together).otp = s.otp ∧ (s.settle together).time = s.time ∧
      (s.settle together).clock = s.clock ∧ (s.settle together).lmon = s.lmon ∧ (s.settle together).shed = s.shed ∧
      (s.settle together).factory = s.factory ∧ (s.settle together).pending = s.pending := by
  simp [State.settle]

/-- What every choice and every execution keeps, the end of an event keeps. -/
theorem State.settle_preserves {P : State → Prop} (response : ∀ s m, P s → P (s.sendResponse m))
    (notice : ∀ s flag, P s → P (s.sendNotice flag)) (free : ∀ s n, P s → P { s with free := n })
    (execute : ∀ s, s.canExecute = true → P s → P s.execute) (s : State) (together : Bool) (h : P s) :
    P (s.settle together) := by
  have choose : ∀ (u : State) (b : Bool), P u → P (u.chooseFrame b) := by
    intro u b hu
    unfold State.chooseFrame
    split
    · exact hu
    · split
      · exact hu
      · exact response _ _ hu
      · exact notice _ _ hu
      · split
        · dsimp only [State.drawFree]
          split
          · exact response _ _ (free _ _ hu)
          · exact notice _ _ (free _ _ hu)
        · exact response _ _ hu
  have serve : ∀ u : State, P u → P u.serve := by
    intro u hu
    unfold State.serve
    split
    · rename_i hc
      exact choose _ _ (execute _ hc hu)
    · exact hu
  exact serve _ (serve _ (choose _ _ h))

/-- With no response waiting, no notice pending and nothing to execute, the end of an event changes nothing. -/
theorem State.settle_idle (s : State) (together : Bool) (slot : s.link.slot = none)
    (notices : s.events.firstPending = none) (requests : s.link.requests = []) : s.settle together = s := by
  have h : s.chooseFrame together = s := by
    unfold State.chooseFrame
    simp [slot, notices]
  have hs : s.serve = s := by simp [State.serve, State.canExecute, requests]
  simp [State.settle, h, hs]

/-- While a request executes and the transmit side is busy, the end of an event changes nothing. -/
theorem State.settle_busy (s : State) (together : Bool) (tx : s.link.tx.isSome = true)
    (waits : s.canExecute = false) : s.settle together = s := by
  have h : s.chooseFrame together = s := by
    unfold State.chooseFrame
    simp [tx]
  simp [State.settle, h, State.serve, waits]

/-- Every command has a next state. -/
theorem exec_next (c : Instr) (s : State) : ∃ t, exec c s = .next t := by
  cases c <;> exact ⟨_, rfl⟩

/-- Every step has a next state. -/
theorem step_next (s : State) : ∃ t, step s = .next t := by
  unfold step
  split
  · exact exec_next _ _
  · unfold idleStep
    split
    · exact exec_next _ _
    · exact ⟨_, rfl⟩

/-- What every command keeps, the choice of a due event keeps, and a microsecond keeps, every step keeps. -/
theorem step_preserves {P : State → Prop} (command : ∀ c s t, P s → exec c s = .next t → P t)
    (queue : ∀ s rest, P s → P { s with pending := rest }) (choice : ∀ s n, P s → P { s with free := n })
    (tick : ∀ s, P s → P s.tick) (s t : State) (h : P s) (hs : step s = .next t) : P t := by
  unfold step at hs
  split at hs
  · exact command _ _ _ (queue _ _ h) hs
  · unfold idleStep at hs
    split at hs
    · exact command _ _ _ (choice _ _ h) hs
    · cases hs
      exact tick _ h

end Sys2Proof.Machine
end

