-- ==== Sys2Proof/Laws/HostLink.lean ====
section
/-! SUPPORT. A request on a host link at rest: what it leaves, by what its owner does with it. -/

namespace Sys2Proof.Machine

/-- A request that its owner answers at once leaves its response on HL_TXD. -/
theorem takeRequest_answers {s u : State} {m : Message} {st : Status} {fields : List Byte} (ready : HostReady s)
    (run : runKind m.kind m.body (s.awaiting m) = u.respond st fields) (link : u.link = (s.awaiting m).link)
    (events : u.events.firstPending = none) :
    s.takeRequest m =
      { u with link := s.link }.answered (responseKind m.kind) m.tag (st.code :: fields) := by
  obtain ⟨h1, h2, h3, h4, h5, h6⟩ := ready
  have hoffer : s.hunt.offerFrame m = { s with link := { s.link with assembler := .hunt, requests := [m] } } := by
    simp [State.offerFrame, State.hunt, h2, Config.requestCapacity]
  have hwait : { s.hunt.offerFrame m with link := { (s.hunt.offerFrame m).link with executing := true } }
      = s.awaiting m := by
    rw [hoffer]
    rfl
  have hchoose : (s.hunt.offerFrame m).chooseFrame true = s.hunt.offerFrame m := by
    rw [hoffer]
    simp [State.chooseFrame, h4, h6]
  have hexec : (s.hunt.offerFrame m).execute = u.respond st fields := by
    rw [← run, ← hwait]
    rw [hoffer]
    simp [State.execute]
  have hresp : u.respond st fields = { u with link := { s.link with
      assembler := .hunt
      requests := []
      executing := false
      slot := some ⟨responseKind m.kind, m.tag, st.code :: fields⟩ } } := by
    simp [State.respond, link, State.awaiting]
  have hcan : (s.hunt.offerFrame m).canExecute = true := by
    rw [hoffer]
    simp [State.canExecute, h3, h4]
  have hserve : (s.hunt.offerFrame m).serve =
      { u with link := s.link }.answered (responseKind m.kind) m.tag (st.code :: fields) := by
    simp only [State.serve, hcan, if_true, hexec, hresp]
    simp [State.chooseFrame, h1, h5, events, State.sendResponse, State.answered, State.send, State.hunt, h2, h3, h4]
  have hdone : ({ u with link := s.link }.answered (responseKind m.kind) m.tag (st.code :: fields)).serve
      = { u with link := s.link }.answered (responseKind m.kind) m.tag (st.code :: fields) := by
    simp [State.serve, State.canExecute, State.answered, State.send, State.hunt, h2]
  simp [State.takeRequest, State.takesBytes, h1, State.afterEvent, State.settle, h5, hchoose, hserve, hdone]

/-- A request whose response waits for a later event leaves its owner's work and no response. -/
theorem takeRequest_awaits {s u : State} {m : Message} (ready : HostReady s)
    (run : runKind m.kind m.body (s.awaiting m) = u) (link : u.link = (s.awaiting m).link)
    (events : u.events.firstPending = none) : s.takeRequest m = u := by
  obtain ⟨h1, h2, h3, h4, h5, h6⟩ := ready
  have hoffer : s.hunt.offerFrame m = { s with link := { s.link with assembler := .hunt, requests := [m] } } := by
    simp [State.offerFrame, State.hunt, h2, Config.requestCapacity]
  have hwait : { s.hunt.offerFrame m with link := { (s.hunt.offerFrame m).link with executing := true } }
      = s.awaiting m := by
    rw [hoffer]
    rfl
  have hchoose : (s.hunt.offerFrame m).chooseFrame true = s.hunt.offerFrame m := by
    rw [hoffer]
    simp [State.chooseFrame, h4, h6]
  have hexec : (s.hunt.offerFrame m).execute = u := by
    rw [← run, ← hwait]
    rw [hoffer]
    simp [State.execute]
  have hcan : (s.hunt.offerFrame m).canExecute = true := by
    rw [hoffer]
    simp [State.canExecute, h3, h4]
  have hslot : u.link.slot = none := by simp [link, State.awaiting, h4]
  have hnone : u.chooseFrame false = u := by simp [State.chooseFrame, hslot, events]
  have hstop : u.serve = u := by simp [State.serve, State.canExecute, link, State.awaiting]
  simp [State.takeRequest, State.takesBytes, h1, State.afterEvent, State.settle, h5, hchoose]
  simp [State.serve, hcan, hexec, hnone]
  intro hcontra
  simp [State.canExecute, link, State.awaiting] at hcontra

end Sys2Proof.Machine
end

