-- ==== Sys2Proof/Laws/Invariants.lean ====
section
/-! SUPPORT. What the shared operations do, each said once, and how a property that the operations of a step keep is
kept by the step. -/

namespace Sys2Proof.Machine

/-! ### The shared operations -/

/-- WLOG's report changes PRC alone, and only in PROXY (R9). -/
theorem State.reportWake_eq (s : State) : s.reportWake = { s with prc := if s.prc.presence = .proxy then { s.prc with
            presence := .waking, escalations := 0
            wakeAckTimer := some (s.clock + s.settings.wakeAckTimeoutMs * 1000000) } else s.prc } := by
  unfold State.reportWake
  cases s.prc.presence <;> rfl

/-- What taking a cause does to PRC (R9, R95). -/
theorem State.takeCause_prc (s : State) (o : Offer) : (s.takeCause o).prc = if s.causeAllowed o = true ∧
    s.prc.presence = .proxy then { s.prc with
            presence := .waking, escalations := 0
            wakeAckTimer := some (s.clock + s.settings.wakeAckTimeoutMs * 1000000) } else s.prc := by
  have hr := State.reportWake_eq
  unfold State.takeCause
  cases ha : s.causeAllowed o <;> cases hp : s.prc.presence <;> simp [Presence.isProxy]
  all_goals split
  all_goals (try split)
  all_goals simp [hr, hp, State.coalesce]

/-- A cause without a frame touches neither the pool nor the capture slots (R98). -/
theorem State.takeCause_without_frame (s : State) (o : Offer) (h : o.frame = none) : (s.takeCause o).pool
    = s.pool ∧ (s.takeCause o).wlog.slots = s.wlog.slots := by
  have hr : ∀ u : State, u.reportWake.pool = u.pool ∧ u.reportWake.wlog = u.wlog := by
    intro u; unfold State.reportWake; split <;> exact ⟨rfl, rfl⟩
  have ha : ∀ q, (s.addRecord q o).pool = s.pool ∧ (s.addRecord q o).wlog.slots = s.wlog.slots := by
    intro q; unfold State.addRecord; rw [h]; exact ⟨rfl, rfl⟩
  unfold State.takeCause
  split
  · split
    · split
      · rw [(hr _).1, (hr _).2]; exact ha _
      · rw [(hr _).1, (hr _).2]; exact ⟨rfl, rfl⟩
    · rw [(hr _).1, (hr _).2]; exact ⟨rfl, rfl⟩
  · exact ⟨rfl, rfl⟩

/-- What announcing one event keeps, announcing all of them keeps (R101, R172, log 21). -/
theorem State.announceAll_preserves {P : State → Prop} (an : ∀ s e, P s → P (s.announce e))
    (free : ∀ s n, P s → P { s with free := n }) :
    ∀ (n : Nat) (s : State) (l : List ResetEndEvent), P s → P (s.announceAll n l)
  | 0, s, _, h => h
  | _ + 1, s, [], h => h
  | _ + 1, s, [e], h => an _ _ h
  | n + 1, s, e :: f :: rest, h => by
    unfold State.announceAll
    exact announceAll_preserves an free n _ _ (an _ _ (free _ _ h))

/-- A flush frees the buffers of the replies it removes and counts them; nothing else changes (R86, R87). -/
theorem State.flushReplies_eq (rs : List QueuedReply) : ∀ (s : State), ∃ pool counters, s.flushReplies rs
    = { s with pool := pool, counters := counters }
   ∧ (∀ i : Fin 10, pool[i].bytes = s.pool[i].bytes ∧ pool[i].owner
       = if i ∈ rs.map QueuedReply.buf then .free else s.pool[i].owner)
   ∧ counters[(17 : Fin 23)] = s.counters[(17 : Fin 23)] + BitVec.ofNat 32 rs.length
   ∧ ∀ p : Fin 23, p ≠ 17 → counters[p] = s.counters[p] := by
  induction rs with
  | nil => intro s; exact ⟨s.pool, s.counters, rfl, by simp, by simp, by simp⟩
  | cons r l ih =>
    intro s
    obtain ⟨P, C, h1, h2, h3, h4⟩ := ih ((s.freeBuffer r.buf).count .answersFlushed)
    refine ⟨P, C, by rw [State.flushReplies, h1]; rfl, fun i => ?_, ?_, fun p hp => ?_⟩
    · obtain ⟨h2a, h2b⟩ := h2 i
      rw [h2a, h2b]
      have hg : ((s.freeBuffer r.buf).count .answersFlushed).pool[i] = if r.buf
          = i then { s.pool[i] with owner := .free } else s.pool[i] := by
        simp only [State.count, State.freeBuffer, State.setBuffer, Fin.getElem_fin, Vector.getElem_set]
        by_cases e : r.buf = i
        · subst e; simp
        · have : (r.buf : Nat) ≠ i := fun x => e (Fin.ext x)
          simp [e, this]
      rw [hg]
      by_cases e : r.buf = i
      · subst e; simp
      · simp [e, Ne.symm e]
    · rw [h3]
      simp [State.count, Counter.position, State.freeBuffer, State.setBuffer]
      rw [BitVec.ofNat_add]
      generalize s.counters[17] = x
      generalize BitVec.ofNat 32 l.length = y
      change x + 1#32 + y = x + (y + 1#32)
      rw [BitVec.add_assoc, BitVec.add_comm y]
    · rw [h4 p hp]
      have : (17 : Nat) ≠ p := fun x => hp (Fin.ext x.symm)
      simp [State.count, Counter.position, State.freeBuffer, State.setBuffer, this]

/-- A cut ends the frame in reception, frees its buffer and counts RX_LINK_DISCARD (R28). -/
theorem State.cutFrame_effect (s : State) : 
    s.cutFrame.rxp = (if s.rxp.inReception then .ignoring else s.rxp)
    ∧ (∀ i : Fin 10, s.cutFrame.pool[i].bytes = s.pool[i].bytes ∧ ((∃ f, s.rxp = .storing i f) →
        s.cutFrame.pool[i].owner = .free) ∧ ((¬∃ f, s.rxp = .storing i f) →
        s.cutFrame.pool[i].owner = s.pool[i].owner))
    ∧ s.cutFrame.counters[(7 : Fin 23)] = s.counters[(7 : Fin 23)] + (if s.rxp.inReception then 1 else 0)
    ∧ ∀ p : Fin 23, p ≠ 7 → s.cutFrame.counters[p] = s.counters[p] := by
  have hc : ∀ p : Fin 23, p ≠ 7 → (s.counters.set 7 (s.counters[7] + 1))[p] = s.counters[p] := by
    intro p hp
    have : (7 : Nat) ≠ p := fun x => hp (Fin.ext x.symm)
    simp [this]
  unfold State.cutFrame
  split
  · rename_i b f h
    refine ⟨by rw [h]; rfl, fun i => ?_, ?_, ?_⟩
    · have hg : (({ s with rxp := .ignoring } : State).freeBuffer b).pool[i] = if b
        = i then { s.pool[i] with owner := .free } else s.pool[i] := by
        simp only [State.freeBuffer, State.setBuffer, Fin.getElem_fin, Vector.getElem_set]
        by_cases e : b = i
        · subst e; simp
        · have : (b : Nat) ≠ i := fun x => e (Fin.ext x)
          simp [e, this]
      show ((({ s with rxp := .ignoring } : State).freeBuffer b).pool[i]).bytes = _ ∧ (_ →
          ((({ s with rxp := .ignoring } : State).freeBuffer b).pool[i]).owner = _) ∧ (_ →
          ((({ s with rxp := .ignoring } : State).freeBuffer b).pool[i]).owner = _)
      rw [hg, h]
      by_cases e : b = i
      · subst e; simp
      · simp [e]
    · rw [h]; simp [State.count, Counter.position, Rxp.inReception, State.freeBuffer, State.setBuffer]
    · exact hc
  · rename_i f h
    refine ⟨by rw [h]; rfl, fun i => ⟨rfl, by rw [h]; simp, fun _ => rfl⟩, ?_, hc⟩
    rw [h]; simp [State.count, Counter.position, Rxp.inReception]
  · rename_i f h
    refine ⟨by rw [h]; rfl, fun i => ⟨rfl, by rw [h]; simp, fun _ => rfl⟩, ?_, hc⟩
    rw [h]; simp [State.count, Counter.position, Rxp.inReception]
  · rename_i h
    exact ⟨by rw [h]; rfl, fun i => ⟨rfl, by rw [h]; simp, fun _ => rfl⟩, by rw [h]; simp [Rxp.inReception],
        fun _ _ => rfl⟩
  · rename_i h
    exact ⟨by rw [h]; rfl, fun i => ⟨rfl, by rw [h]; simp, fun _ => rfl⟩, by rw [h]; simp [Rxp.inReception],
        fun _ _ => rfl⟩

/-- The three ways a frame starts, by the link and the pool; outside IDLE nothing starts (R24, R28, R33). -/
theorem State.startFrame_cases (s : State) (b : Byte) : s.startFrame b = s
    ∨ (s.rxp = .idle ∧ ∃ f, s.startFrame b = { s with lmon := { s.lmon with fill := 8 }, rxp := .discarding f })
    ∨ (s.rxp = .idle ∧ ∃ i f, s.pool[i].owner = .free ∧ s.startFrame b = { s with
        lmon := { s.lmon with fill := 8 }
        rxp := .storing i f
        pool := s.pool.set i ⟨.receiving, [b]⟩ })
    ∨ (s.rxp = .idle ∧ ∃ f, s.startFrame b = { s with
        lmon := { s.lmon with fill := 8 }
        rxp := .streaming f
        events := s.events.raise .poolExhausted s.time }) := by
  cases hr : s.rxp
  case idle =>
    right
    by_cases hl : s.linkReady = true
    · right
      by_cases hf : ∃ i, s.firstFree = some i
      · left
        obtain ⟨i, hi⟩ := hf
        refine ⟨rfl, i, RxFrame.atStart.take b, ?_, ?_⟩
        rotate_left
        · unfold State.startFrame
          rw [hr]
          simp only
          rw [if_pos (by exact hl)]
          unfold State.claim
          have : ∀ u : State, u.pool = s.pool → u.firstFree = some i :=
              fun u hu => by unfold State.firstFree; rw [hu]; exact hi
          rw [this]; rotate_left; rfl
          simp only [State.takeFrameByte, State.storeByte, State.setBuffer]
          simp [Config.storedCapacity]
        · unfold State.firstFree at hi
          have := List.find?_some hi
          simpa using this
      · right
        refine ⟨rfl, RxFrame.atStart.take b, ?_⟩
        · unfold State.startFrame
          rw [hr]
          simp only
          rw [if_pos (by exact hl)]
          unfold State.claim
          have hn : s.firstFree = none := by cases h : s.firstFree with
            | none => rfl
            | some i => exact absurd ⟨i, h⟩ hf
          have : ∀ u : State, u.pool = s.pool → u.firstFree = none :=
              fun u hu => by unfold State.firstFree; rw [hu]; exact hn
          rw [this]; rotate_left; rfl
          rfl
    · left
      refine ⟨rfl, RxFrame.atStart.take b, ?_⟩
      unfold State.startFrame
      rw [hr]
      simp only
      rw [if_neg (by exact hl)]
      rfl
  all_goals left; unfold State.startFrame; rw [hr]

/-- Coalescing is one more in the newest record (R99). -/
theorem coalesceNewest_eq (l : List WakeRecord) : coalesceNewest l = coalescedInto l := by
  induction l with
  | nil => rfl
  | cons r l ih =>
    cases l with
    | nil => simp [coalesceNewest, coalescedInto, stopAt]
    | cons r2 l2 =>
      rw [show coalesceNewest (r :: r2 :: l2) = r :: coalesceNewest (r2 :: l2) from rfl, ih]
      unfold coalescedInto
      rw [List.getLast?_cons_cons]
      cases h : (r2 :: l2).getLast? with
      | none => simp at h
      | some x => simp

/-- What an allowed cause without a frame does to the log in a proxy state (R96, R97, R99, R100). -/
theorem State.takeCause_wlog (s : State) (o : Offer) (allowed : s.causeAllowed o = true) (plain : o.frame = none)
    (proxy : s.prc.presence.isProxy = true) :
    (s.takeCause o).wlog = s.wlog.withCause s.time (o.cause, o.detail) := by
  unfold State.takeCause Wlog.withCause
  rw [if_pos (by simp [allowed, proxy])]
  cases hq : s.wlog.nextSeq with
  | none => simp [State.reportWake_eq, State.coalesce, State.raise, coalesceNewest_eq, hq]
  | some q =>
    by_cases h : s.wlog.records.length < 8
    · have : s.wlog.records.length < Config.logCapacity := h
      simp [this, h, State.reportWake_eq, State.addRecord, plainRecord, nextSequence, plain]
    · have : ¬ s.wlog.records.length < Config.logCapacity := h
      simp [this, h, State.reportWake_eq, State.coalesce, State.raise, coalesceNewest_eq, hq]

/-- A raise sets its own flag and leaves the others (R182). -/
theorem Events.raise_flags (e : Events) (f : EventFlag) (now : Time) (g : Fin 16) :
    (e.raise f now).flags.getLsbD g = (e.flags.getLsbD g || decide (g = f.number)) := by
  unfold Events.raise
  split
  · rename_i h
    by_cases hg : g = f.number
    · subst hg
      simp [h]
    · simp [hg]
  · simp only [flagBit, BitVec.getLsbD_or]
    by_cases hg : g = f.number
    · subst hg
      simp
    · have : (g : Nat) ≠ f.number := fun x => hg (Fin.ext x)
      simp only [hg, decide_false, Bool.or_false]
      by_cases hlt : (g : Nat) < f.number
      · simp
        intro a b
        omega
      · have : (g : Nat) - (f.number : Nat) ≠ 0 := by omega
        simp [this]

/-! ### A property through a step -/

/-- The property is kept by every operation that a step is made of. -/
structure KeptByEvents (P : State → Prop) : Prop where
  sendResponse : ∀ s m, P s → P (s.sendResponse m)
  sendNotice : ∀ s flag, P s → P (s.sendNotice flag)
  advanceFree : ∀ (s : State) n, P s → P { s with free := n }
  setPending : ∀ (s : State) n, P s → P { s with pending := n }
  beginExecuting : ∀ (s : State) r rest, s.link.requests = r :: rest → P s →
      P { s with link := { s.link with executing := true } }
  runRequest : ∀ (s : State) kind body, s.link.requests ≠ [] → P s → P (runKind kind body s)
  setAssembler : ∀ (s : State) a, P s → P { s with link := { s.link with assembler := a } }
  offerFrame : ∀ s m, P s → P (s.offerFrame m)
  count : ∀ s c, P s → P (s.count c)
  raise : ∀ s f, P s → P (s.raise f)
  tick : ∀ s, P s → P s.tick
  frameSent : ∀ s, P s → P s.frameSent
  coldReset : ∀ s b, P s → P (s.coldReset b)
  supplySwitchReset : ∀ s us b, P s → P (s.supplySwitchReset us b)
  hostTxFalls : ∀ s, P s → P s.hostTxFalls
  hostTxRises : ∀ s, P s → P s.hostTxRises
  handoverDeadline : ∀ s, P s → P s.handoverDeadlineExpires
  wakeAckTimer : ∀ s, P s → P s.wakeAckTimerExpires
  pulseEnds : ∀ s, P s → P s.pulseEnds
  startFrame : ∀ s b, P s → P (s.startFrame b)
  takeFrameByte : ∀ s b, P s → P (s.takeFrameByte b)
  rxError : ∀ s, P s → P s.rxError
  endFrame : ∀ s b, P s → P (s.endFrame b)
  startsTransmission : ∀ s, P s → P s.startsTransmission
  endsTransmission : ∀ s, P s → P s.endsTransmission
  endsGap : ∀ s, P s → P s.endsGap
  checksumPassEnds : ∀ s, P s → P s.checksumPassEnds
  holdDownEnds : ∀ s, P s → P s.holdDownEnds
  clearingPassEnds : ∀ s, P s → P s.clearingPassEnds
  verifyPassEnds : ∀ s, P s → P s.verifyPassEnds
  busStarts : ∀ s, P s → P s.busStarts
  takeAddress : ∀ s b, P s → P (s.takeAddress b)
  writePage : ∀ s b, P s → P (s.writePage b)
  readPage : ∀ s b, P s → P (s.readPage b)
  writeOffset : ∀ s b, P s → P (s.writeOffset b)
  readDescriptor : ∀ s b, P s → P (s.readDescriptor b)
  busStops : ∀ s, P s → P s.busStops
  sidebandStalls : ∀ s, P s → P s.sidebandStalls
  phyLinkRises : ∀ s, P s → P s.phyLinkRises
  phyLinkFalls : ∀ s, P s → P s.phyLinkFalls
  takeMeasurement : ∀ s n, P s → P (s.takeMeasurement n)
  settles : ∀ s, P s → P s.settles
  recenters : ∀ s, P s → P s.recenters
  quarantineEnds : ∀ s, P s → P s.quarantineEnds
  windowEnds : ∀ s, P s → P s.windowEnds
  alarmExpires : ∀ s n, P s → P (s.alarmExpires n)

/-- A property that every such operation keeps is kept by every step. -/
theorem KeptByEvents.step {P : State → Prop} (K : KeptByEvents P) (s t : State) (hs : step s
    = .next t) (h : P s) : P t := by
  have hse : ∀ (u : State) b, P u → P (u.settle b) := by
    intro u b hu
    refine State.settle_preserves K.sendResponse K.sendNotice K.advanceFree ?_ u b hu
    intro v hv hp
    unfold State.execute
    split
    · exact hp
    · rename_i r l hr
      exact K.runRequest _ _ _ (by simp [hr]) (K.beginExecuting v _ _ hr hp)
  have haf : ∀ (u : State) (f : State → State), P (f u) → P (u.afterEvent f) := fun u f hf => hse _ _ hf
  have htr : ∀ (u : State) m, P u → P (u.takeRequest m) := by
    intro u m hu
    unfold State.takeRequest
    split
    · exact haf u _ (K.offerFrame _ _ (K.setAssembler _ _ hu))
    · exact hu
  have hby : ∀ (u : State) b, P u → P (u.hostLinkByte b) := by
    intro u b hu
    unfold State.hostLinkByte
    split
    · refine haf u _ ?_
      have hd : P u.discardFrame := K.raise _ _ (K.count _ _ (K.setAssembler _ _ hu))
      show P (u.takeLinkByte b)
      unfold State.takeLinkByte
      split
      · split
        · exact K.setAssembler _ _ hu
        · exact hu
      · split
        · exact K.setAssembler _ _ hu
        · exact hd
      · split
        · exact K.setAssembler _ _ hu
        · split
          · exact K.offerFrame _ _ (K.setAssembler _ _ hu)
          · exact hd
    · exact hu
  have hgl : ∀ u, P u → P (State.gapLimitPasses u) := by
    intro u hu
    unfold State.gapLimitPasses
    split
    · exact K.raise _ _ (K.count _ _ (K.setAssembler _ _ hu))
    · exact hu
  refine step_preserves (P := P) ?_ (fun s r h => K.setPending s r h) (fun s n h => K.advanceFree s n h) K.tick s t h hs
  intro c u t hu e
  cases c
  case identify => injection e with e; subst e; exact htr _ _ hu
  case status => injection e with e; subst e; exact htr _ _ hu
  case resetTables => injection e with e; subst e; exact htr _ _ hu
  case resetLog => injection e with e; subst e; exact htr _ _ hu
  case resetCounters => injection e with e; subst e; exact htr _ _ hu
  case resetDescriptor => injection e with e; subst e; exact htr _ _ hu
  case resetSettings => injection e with e; subst e; exact htr _ _ hu
  case resetAlarms => injection e with e; subst e; exact htr _ _ hu
  case settingSet => injection e with e; subst e; exact htr _ _ hu
  case settingGet => injection e with e; subst e; exact htr _ _ hu
  case handover => injection e with e; subst e; exact htr _ _ hu
  case reclaim => injection e with e; subst e; exact htr _ _ hu
  case wakeAck => injection e with e; subst e; exact htr _ _ hu
  case answerSet => injection e with e; subst e; exact htr _ _ hu
  case answerClear => injection e with e; subst e; exact htr _ _ hu
  case answerGet => injection e with e; subst e; exact htr _ _ hu
  case templateSet => injection e with e; subst e; exact htr _ _ hu
  case templateSetEmptyBody => injection e with e; subst e; exact htr _ _ hu
  case templateGet => injection e with e; subst e; exact htr _ _ hu
  case filterInsert => injection e with e; subst e; exact htr _ _ hu
  case filterRemove => injection e with e; subst e; exact htr _ _ hu
  case filterGet => injection e with e; subst e; exact htr _ _ hu
  case descOpen => injection e with e; subst e; exact htr _ _ hu
  case descWrite => injection e with e; subst e; exact htr _ _ hu
  case descRead => injection e with e; subst e; exact htr _ _ hu
  case descPublish => injection e with e; subst e; exact htr _ _ hu
  case wakelogTake => injection e with e; subst e; exact htr _ _ hu
  case captureGet => injection e with e; subst e; exact htr _ _ hu
  case countersGet => injection e with e; subst e; exact htr _ _ hu
  case countersClear => injection e with e; subst e; exact htr _ _ hu
  case eventsGet => injection e with e; subst e; exact htr _ _ hu
  case eventsClear => injection e with e; subst e; exact htr _ _ hu
  case noticeMask => injection e with e; subst e; exact htr _ _ hu
  case alarmSet => injection e with e; subst e; exact htr _ _ hu
  case alarmStop => injection e with e; subst e; exact htr _ _ hu
  case alarmGet => injection e with e; subst e; exact htr _ _ hu
  case linkGet => injection e with e; subst e; exact htr _ _ hu
  case unknownKind => injection e with e; subst e; exact htr _ _ hu
  case hostLinkByte => injection e with e; subst e; exact hby _ _ hu
  case framingError => injection e with e; subst e; exact hu
  case gapTimeout => injection e with e; subst e; exact haf _ _ (hgl _ hu)
  case hostLinkFrameSent => injection e with e; subst e; exact hse _ _ (K.frameSent _ hu)
  case coldReset => injection e with e; subst e; exact K.coldReset _ _ hu
  case supplySwitchReset => injection e with e; subst e; exact K.supplySwitchReset _ _ _ hu
  case hostTxActiveFall => injection e with e; subst e; exact haf _ _ (K.hostTxFalls _ hu)
  case hostTxActiveRise => injection e with e; subst e; exact K.hostTxRises _ hu
  case handoverDeadlineExpiry => injection e with e; subst e; exact haf _ _ (K.handoverDeadline _ hu)
  case wakeAckTimerExpiry => injection e with e; subst e; exact haf _ _ (K.wakeAckTimer _ hu)
  case escalationPulseEnd => injection e with e; subst e; exact K.pulseEnds _ hu
  case frameStart => injection e with e; subst e; exact haf _ _ (K.startFrame _ _ hu)
  case phyRxer => injection e with e; subst e; exact K.rxError _ hu
  case frameEnd => injection e with e; subst e; exact haf _ _ (K.endFrame _ _ hu)
  case transmissionStart => injection e with e; subst e; exact K.startsTransmission _ hu
  case transmissionEnd => injection e with e; subst e; exact haf _ _ (K.endsTransmission _ hu)
  case gapEnd => injection e with e; subst e; exact K.endsGap _ hu
  case checksumPassEnd => injection e with e; subst e; exact haf _ _ (K.checksumPassEnds _ hu)
  case holdDownEnd => injection e with e; subst e; exact K.holdDownEnds _ hu
  case clearingPassEnd => injection e with e; subst e; exact haf _ _ (K.clearingPassEnds _ hu)
  case verifyPassEnd => injection e with e; subst e; exact haf _ _ (K.verifyPassEnds _ hu)
  case startCondition => injection e with e; subst e; exact K.busStarts _ hu
  case repeatedStartCondition => injection e with e; subst e; exact K.busStarts _ hu
  case addressByte => injection e with e; subst e; exact K.takeAddress _ _ hu
  case pageSelectWrite => injection e with e; subst e; exact K.writePage _ _ hu
  case pageSelectRead => injection e with e; subst e; exact K.readPage _ _ hu
  case readOffsetWrite => injection e with e; subst e; exact K.writeOffset _ _ hu
  case descriptorReadByte => injection e with e; subst e; exact K.readDescriptor _ _ hu
  case stopCondition => injection e with e; subst e; exact haf _ _ (K.busStops _ hu)
  case stallTimeout => injection e with e; subst e; exact haf _ _ (K.sidebandStalls _ hu)
  case phyLinkRise => injection e with e; subst e; exact K.phyLinkRises _ hu
  case phyLinkFall => injection e with e; subst e; exact haf _ _ (K.phyLinkFalls _ hu)
  case measurement => injection e with e; subst e; exact haf _ _ (K.takeMeasurement _ _ hu)
  case settleEnd => injection e with e; subst e; exact haf _ _ (K.settles _ hu)
  case recenter => injection e with e; subst e; exact haf _ _ (K.recenters _ hu)
  case quarantineEnd => injection e with e; subst e; exact K.quarantineEnds _ hu
  case windowEnd => injection e with e; subst e; exact haf _ _ (K.windowEnds _ hu)
  case alarmExpiry => injection e with e; subst e; exact haf _ _ (K.alarmExpires _ _ hu)
  case frameByte => injection e with e; subst e; exact K.takeFrameByte _ _ hu

/-- The property is kept by every change of state that a request of the host link makes. -/
structure KeptByRequests (P : State → Prop) : Prop where
  respond : ∀ (s : State) st fl, P s → P (s.respond st fl)
  resetScopes : ∀ (s : State) b, P s → P (s.resetScopes b)
  setSettings : ∀ (s : State) id b0 b1 b2 b3 tb, s.settings.write id b0 b1 b2 b3 = some tb → P s →
      P { s with settings := tb }
  beginHandover : ∀ (s : State), s.prc.presence = .passive → P s → P ({ s with prc := { s.prc with
          presence := .entering
          pendingResponse := .handover
          handoverDeadline := some (s.inMs s.settings.handoverDeadlineMs) } } : State).testWait
  beginLeaving : ∀ s : State, s.prc.presence.isProxy = true → s.link.requests ≠ [] → P s → P s.beginLeaving
  acknowledgeWake : ∀ s : State, (s.prc.presence = .waking ∨ s.prc.presence = .escalated) → P s →
      P { s with prc := { s.prc with
          presence := .proxy
          wakeAckTimer := none
          pulseEnd := none
          escalations := 0 } }
  setAnswer : ∀ (s : State) (i : Fin 32) f e, s.answerOf f = some e → P s →
      P { s with answers := s.answers.set i (some e) }
  clearAnswer : ∀ (s : State) (i : Fin 32), P s → P { s with answers := s.answers.set i none }
  setTemplate : ∀ (s : State) (i : Fin 16) (t : Template) (f : TemplateForm), t.body = f.body →
      14 ≤ f.body.length → f.body.length ≤ 128 → f.ops.length ≤ 8 →
      editListOf f.body.length f.ops = some t.edits → P s → P { s with templates := s.templates.set i (some t) }
  clearTemplate : ∀ (s : State) (i : Fin 16), lowestNaming s.answers i = none → P s →
      P { s with templates := s.templates.set i none }
  insertFilter : ∀ (s : State) n r, ¬ Config.filterCapacity ≤ s.filters.length → P s →
      P { s with filters := s.filters.insertIdx n r }
  removeFilter : ∀ (s : State) n, P s → P { s with filters := s.filters.eraseIdx n }
  openIdle : ∀ (s : State), (s.desc.state = .empty ∨ s.desc.state = .faulted) → P s →
      P { s with desc := { s.desc with state := .editing } }
  openHoldDown : ∀ (s : State), s.desc.state = .holddown → P s →
      P { s with desc := { s.desc with state := .editing, holdDownEnd := none } }
  openPublished : ∀ (s : State), s.desc.state = .published → s.desc.transaction = none → P s →
      P (s.leavePublished .editing)
  deferOpen : ∀ (s : State) x, s.desc.state = .published → s.desc.transaction = some x → P s →
      P { s with desc := { s.desc with deferred := .descOpen } }
  writeStore : ∀ (s : State) o (bytes : List Byte), descRange o bytes.length = true → P s →
      P { s with desc := { s.desc with store := Memory.writeRun s.desc.store o bytes } }
  beginPublish : ∀ (s : State) n, n ≤ 8 → s.desc.state = .editing → P s →
      P { s with desc := { s.desc with state := .summing, passCount := n, passLatest := some (s.inMs 2) } }
  takeRecord : ∀ (s : State) r rest, s.wlog.records = r :: rest → P s →
      P ({ s with wlog := { s.wlog with records := rest } }.freeCaptureOf r)
  clearCounters : ∀ s : State, P s → P s.clearCounters
  clearFlags : ∀ (s : State) m, P s → P { s with events := s.events.clear m }
  setMask : ∀ (s : State) m, P s → P { s with events := s.events.setMask m }
  setAlarm : ∀ (s : State) (k : Fin 4) a, P s → P { s with alarms := s.alarms.set k a }

/-- A property that every such change keeps is kept by the execution of any request. -/
theorem KeptByRequests.run {P : State → Prop} (R : KeptByRequests P) (s : State) (kind : Byte) (body : List Byte)
    (hq : s.link.requests ≠ []) (h : P s) : P (runKind kind body s) := by
  have rs := R.respond
  unfold runKind
  split
  all_goals first
    | exact rs _ _ _ h
    | skip
  · unfold runIdentify; split <;> exact rs _ _ _ h
  · unfold runStatus; split <;> exact rs _ _ _ h
  · unfold runReset; split
    · split
      · exact rs _ _ _ h
      · split
        · exact rs _ _ _ h
        · split
          · exact R.resetScopes _ _ h
          · exact rs _ _ _ (R.resetScopes _ _ h)
    · exact rs _ _ _ h
  · unfold runSettingSet; split
    · split
      · rename_i hw; exact rs _ _ _ (R.setSettings _ _ _ _ _ _ _ hw h)
      · exact rs _ _ _ h
    · exact rs _ _ _ h
  · unfold runSettingGet; split
    · split <;> exact rs _ _ _ h
    · exact rs _ _ _ h
  · unfold runHandover; split
    · exact rs _ _ _ h
    · split
      · exact rs _ _ _ h
      · split
        · exact rs _ _ _ h
        · split
          · exact rs _ _ _ h
          · rename_i hp _ _; exact R.beginHandover s (by simpa using hp) h
  · unfold runReclaim; split
    · exact rs _ _ _ h
    · split
      · exact rs _ _ _ h
      · rename_i hp; exact R.beginLeaving _ (by rw [hp]; rfl) hq h
      · rename_i hp; exact R.beginLeaving _ (by rw [hp]; rfl) hq h
      · rename_i hp; exact R.beginLeaving _ (by rw [hp]; rfl) hq h
      · exact rs _ _ _ h
      · exact rs _ _ _ h
  · unfold runWakeAck; split
    · exact rs _ _ _ h
    · split
      · rename_i hp; exact rs _ _ _ (R.acknowledgeWake s (Or.inl hp) h)
      · rename_i hp; exact rs _ _ _ (R.acknowledgeWake s (Or.inr hp) h)
      all_goals exact rs _ _ _ h
  · unfold runAnswerSet; split
    · exact rs _ _ _ h
    · split
      · rename_i he; exact rs _ _ _ (R.setAnswer _ _ _ _ he h)
      · exact rs _ _ _ h
  · unfold runAnswerClear; split
    · split
      · exact rs _ _ _ h
      · exact rs _ _ _ (R.clearAnswer _ _ h)
    · exact rs _ _ _ h
  · unfold runAnswerGet; split
    · split
      · exact rs _ _ _ h
      · split <;> exact rs _ _ _ h
    · exact rs _ _ _ h
  · unfold runTemplateSet; split
    · exact rs _ _ _ h
    · split
      · unfold State.undefineTemplate; split
        · exact rs _ _ _ h
        · split
          · exact rs _ _ _ h
          · split
            · exact rs _ _ _ h
            · rename_i hl; exact rs _ _ _ (R.clearTemplate _ _ hl h)
      · unfold State.defineTemplate; split
        · exact rs _ _ _ h
        · split
          · exact rs _ _ _ h
          · rename_i hn; simp at hn
            split
            · exact rs _ _ _ h
            · rename_i e he; exact rs _ _ _ (R.setTemplate _ _ ⟨_, e⟩ _ rfl (by omega) (by omega) (by omega) he h)
  · unfold runTemplateGet; split
    · split
      · exact rs _ _ _ h
      · split <;> exact rs _ _ _ h
    · exact rs _ _ _ h
  · unfold runFilterInsert; split
    · exact rs _ _ _ h
    · split
      · exact rs _ _ _ h
      · split
        · exact rs _ _ _ h
        · split
          · exact rs _ _ _ h
          · rename_i hc; exact rs _ _ _ (R.insertFilter _ _ _ hc h)
  · unfold runFilterRemove; split
    · split
      · exact rs _ _ _ h
      · exact rs _ _ _ (R.removeFilter _ _ h)
    · exact rs _ _ _ h
  · unfold runFilterGet; split
    · split <;> exact rs _ _ _ h
    · exact rs _ _ _ h
  · unfold runDescOpen; split
    · exact rs _ _ _ h
    · split
      · exact rs _ _ _ h
      · exact rs _ _ _ h
      · exact rs _ _ _ h
      · rename_i hs; exact rs _ _ _ (R.openIdle _ (Or.inl hs) h)
      · rename_i hs; exact rs _ _ _ (R.openIdle _ (Or.inr hs) h)
      · rename_i hs; exact rs _ _ _ (R.openHoldDown _ hs h)
      · exact rs _ _ _ h
      · rename_i hs; split
        · rename_i ht; exact rs _ _ _ (R.openPublished _ hs ht h)
        · rename_i ht; exact R.deferOpen _ _ hs ht h
  · unfold runDescWrite; split
    · exact rs _ _ _ h
    · split
      · exact rs _ _ _ h
      · split
        · exact rs _ _ _ h
        · split
          · rename_i hr; exact rs _ _ _ (R.writeStore _ _ _ hr h)
          · exact rs _ _ _ h
  · unfold runDescRead; split
    · dsimp only; split
      · exact rs _ _ _ h
      · split <;> exact rs _ _ _ h
    · exact rs _ _ _ h
  · unfold runDescPublish; split
    · split
      · exact rs _ _ _ h
      · split
        · rename_i hs hn; simp at hn hs; exact R.beginPublish _ _ hn.2 hs h
        · exact rs _ _ _ h
    · exact rs _ _ _ h
  · unfold runWakelogTake; split
    · exact rs _ _ _ h
    · split
      · exact rs _ _ _ h
      · rename_i hr; exact rs _ _ _ (R.takeRecord _ _ _ hr h)
  · unfold runCaptureGet; split
    · split
      · dsimp only; split <;> exact rs _ _ _ h
      · exact rs _ _ _ h
    · exact rs _ _ _ h
  · unfold runCountersGet; split <;> exact rs _ _ _ h
  · unfold runCountersClear; split
    · exact rs _ _ _ h
    · exact rs _ _ _ (R.clearCounters _ h)
  · unfold runEventsGet; split <;> exact rs _ _ _ h
  · unfold runEventsClear; split
    · exact rs _ _ _ (R.clearFlags _ _ h)
    · exact rs _ _ _ h
  · unfold runNoticeMask; split
    · exact rs _ _ _ (R.setMask _ _ h)
    · exact rs _ _ _ h
  · unfold runAlarmSet; split
    · dsimp only; split
      · split
        · exact rs _ _ _ h
        · exact rs _ _ _ (R.setAlarm _ _ _ h)
      · exact rs _ _ _ h
    · exact rs _ _ _ h
  · unfold runAlarmStop; split
    · split
      · exact rs _ _ _ h
      · exact rs _ _ _ (R.setAlarm _ _ _ h)
    · exact rs _ _ _ h
  · unfold runAlarmGet; split
    · split
      · exact rs _ _ _ h
      · exact rs _ _ _ h
    · exact rs _ _ _ h
  · unfold runLinkGet; split
    · exact rs _ _ _ h
    · exact rs _ _ _ h

/-! ### A request begun while a frame is on HL_TXD -/

/-- A frame is on HL_TXD, and a request executes or a response waits in the slot: nothing can be sent or begun. -/
def State.linkOccupied (s : State) : Prop :=
  s.link.tx.isSome = true ∧ (s.link.executing = true ∨ s.link.slot.isSome = true)

theorem State.linkOccupied_of_link {s t : State} (same : t.link = s.link) (h : s.linkOccupied) : t.linkOccupied := by
  unfold State.linkOccupied at *
  rw [same]
  exact h

theorem State.respond_linkOccupied (s : State) (st : Status) (fields : List Byte) (h : s.linkOccupied) :
    (s.respond st fields).linkOccupied := by
  unfold State.respond
  split
  · exact h
  · exact ⟨h.1, Or.inr rfl⟩

theorem State.switchToPart_linkOccupied (s : State) (forced : Bool) (h : s.linkOccupied) :
    (s.switchToPart forced).linkOccupied := by
  unfold State.switchToPart
  exact respond_linkOccupied _ _ _ (linkOccupied_of_link (s := s) (by simp) h)

theorem State.leavingEnd_linkOccupied (s : State) (h : s.linkOccupied) : s.leavingEnd.linkOccupied := by
  unfold State.leavingEnd
  exact respond_linkOccupied _ _ _ (linkOccupied_of_link (s := s) (by simp) h)

/-- Any request begun leaves the link occupied: it executes on, or its response stands in the slot (R178). -/
theorem runKind_linkOccupied (s : State) (kind : Byte) (body : List Byte) (requests : s.link.requests ≠ [])
    (h : s.linkOccupied) : (runKind kind body s).linkOccupied := by
  refine KeptByRequests.run (P := State.linkOccupied) ?_ s kind body requests h
  constructor
  case respond => exact State.respond_linkOccupied
  case beginHandover =>
    intro s _ h
    unfold State.testWait
    split
    · exact State.switchToPart_linkOccupied _ _ (State.linkOccupied_of_link (s := s) rfl h)
    · exact State.linkOccupied_of_link (s := s) rfl h
  case beginLeaving =>
    intro s _ _ h
    unfold State.beginLeaving
    dsimp only
    split
    · exact State.linkOccupied_of_link (s := s) (by simp) h
    · exact State.leavingEnd_linkOccupied _ (State.linkOccupied_of_link (s := s) (by simp) h)
  all_goals
    intros
    refine State.linkOccupied_of_link ?_ (by assumption)
    first | rfl | simp

/-- With the link occupied the end of an event changes nothing (R178, R181). -/
theorem State.settle_linkOccupied (s : State) (together : Bool) (h : s.linkOccupied) : s.settle together = s := by
  refine State.settle_busy s together h.1 ?_
  unfold State.canExecute
  rcases h.2 with e | e
  · simp [e]
  · cases hs : s.link.slot <;> simp_all

end Sys2Proof.Machine
end

