-- ==== Sys2Proof/Laws/Memory.lean ====
section
/-! SUPPORT. The descriptor store: what a write does to a read, the canonical form, and the bound of 1024. -/

namespace Sys2Proof.Machine.Memory

theorem wfFrom_mono {m : List Host.Cell} {lo hi : Nat} (h : lo ≤ hi) (w : wfFrom hi m = true) : wfFrom lo m = true := by
  cases m with
  | nil => rfl
  | cons c rest =>
    simp only [wfFrom, Bool.and_eq_true, decide_eq_true_eq] at w ⊢
    exact ⟨⟨Nat.le_trans h w.1.1, w.1.2⟩, w.2⟩

/-- Below its first position a canonical store reads as blank. -/
theorem read_below {m : List Host.Cell} {lo a : Nat} (w : wfFrom lo m = true) (h : a < lo) : read m a = blank := by
  induction m generalizing lo with
  | nil => rfl
  | cons c rest ih =>
    simp only [wfFrom, Bool.and_eq_true, decide_eq_true_eq] at w
    have hne : a ≠ c.1 := by omega
    simp only [read, hne, if_false]
    exact ih w.2 (by omega)

/-- A write keeps the canonical form. -/
theorem wfFrom_write {m : List Host.Cell} {lo a : Nat} (w : wfFrom lo m = true) (h : lo ≤ a) (v : Byte) :
    wfFrom lo (write m a v) = true := by
  induction m generalizing lo with
  | nil =>
    simp only [write]
    split <;> simp_all [wfFrom]
  | cons c rest ih =>
    simp only [wfFrom, Bool.and_eq_true, decide_eq_true_eq] at w
    simp only [write]
    split
    · split
      · simp_all [wfFrom]
      · simp_all [wfFrom]
    · split
      · split
        · exact wfFrom_mono (by omega) w.2
        · simp_all [wfFrom]
      · have := ih w.2 (by omega)
        simp_all [wfFrom]

theorem write_wf {m : List Host.Cell} (w : wf m = true) (a : Nat) (v : Byte) : wf (write m a v) = true :=
  wfFrom_write w (Nat.zero_le a) v

/-- A run of writes keeps the canonical form. -/
theorem writeRun_wf (bytes : List Byte) {m : List Host.Cell} (w : wf m = true) (a : Nat) :
    wf (writeRun m a bytes) = true := by
  induction bytes generalizing m a with
  | nil => exact w
  | cons b rest ih => exact ih (write_wf w a b) (a + 1)

/-- Reading after a write: the written position gives the byte, every other what it gave. -/
theorem read_write {m : List Host.Cell} {lo : Nat} (w : wfFrom lo m = true) (a p : Nat) (v : Byte) :
    read (write m a v) p = if p = a then v else read m p := by
  induction m generalizing lo with
  | nil =>
    simp only [write]
    split <;> rename_i hv <;> by_cases hp : p = a <;> simp [read, hv, hp]
  | cons c rest ih =>
    simp only [wfFrom, Bool.and_eq_true, decide_eq_true_eq] at w
    simp only [write]
    split
    · rename_i hlt
      split
      · rename_i hv
        by_cases hp : p = a
        · subst hp
          have hne : p ≠ c.1 := by omega
          simp [read, hne, hv, read_below w.2 (show p < c.1 + 1 by omega)]
        · simp [hp]
      · by_cases hp : p = a <;> simp [read, hp]
    · rename_i hge
      split
      · rename_i heq
        split
        · rename_i hv
          by_cases hp : p = a
          · subst hp
            simp [hv, read_below w.2 (show p < c.1 + 1 by omega)]
          · simp [read, hp, heq ▸ hp]
        · by_cases hp : p = a <;> simp [read, hp, heq ▸ hp]
      · rename_i hne
        by_cases hpc : p = c.1
        · have hpa : p ≠ a := by omega
          simp [read, hpc ▸ hpa, hpc]
        · simp [read, hpc, ih w.2]

/-- Reading after a run of writes: inside the run its byte, outside what it gave. -/
theorem read_writeRun (bytes : List Byte) {m : List Host.Cell} (w : wf m = true) (a p : Nat) :
    read (writeRun m a bytes) p =
      if h : a ≤ p ∧ p < a + bytes.length then bytes[p - a]'(by omega) else read m p := by
  induction bytes generalizing m a with
  | nil =>
    simp [writeRun]
  | cons b rest ih =>
    simp only [writeRun]
    rw [ih (write_wf w a b) (a + 1), read_write w]
    by_cases hp : p = a
    · subst hp
      have : ¬(p + 1 ≤ p ∧ p < p + 1 + rest.length) := by omega
      simp
    · by_cases hin : a + 1 ≤ p ∧ p < a + 1 + rest.length
      · have h2 : a ≤ p ∧ p < a + (b :: rest).length := by simp only [List.length_cons]; omega
        rw [dif_pos hin, dif_pos h2]
        have hpa : p - a = (p - (a + 1)) + 1 := by omega
        simp [hpa]
      · have h2 : ¬(a ≤ p ∧ p < a + (b :: rest).length) := by simp only [List.length_cons]; omega
        rw [dif_neg hin, dif_neg h2, if_neg hp]

/-- A write inside a bound keeps every position inside it. -/
theorem write_inside {m : List Host.Cell} {a n : Nat} (h : a < n) (v : Byte) (inside : ∀ c ∈ m, c.1 < n) :
    ∀ c ∈ write m a v, c.1 < n := by
  induction m with
  | nil =>
    intro c hc
    simp only [write] at hc
    split at hc
    · simp at hc
    · simp only [List.mem_singleton] at hc
      subst hc
      exact h
  | cons d rest ih =>
    have hd := inside d (by simp)
    have hr : ∀ c ∈ rest, c.1 < n := fun c hc => inside c (by simp [hc])
    intro c hc
    simp only [write] at hc
    split at hc
    · split at hc
      · exact inside c hc
      · rcases List.mem_cons.1 hc with rfl | hc
        · exact h
        · exact inside c hc
    · split at hc
      · split at hc
        · exact hr c hc
        · rcases List.mem_cons.1 hc with rfl | hc
          · exact h
          · exact hr c hc
      · rcases List.mem_cons.1 hc with rfl | hc
        · exact hd
        · exact ih hr c hc

/-- A run of writes inside a bound keeps every position inside it. -/
theorem writeRun_inside (bytes : List Byte) {m : List Host.Cell} {a n : Nat} (h : a + bytes.length ≤ n)
    (inside : ∀ c ∈ m, c.1 < n) : ∀ c ∈ writeRun m a bytes, c.1 < n := by
  induction bytes generalizing m a with
  | nil => exact inside
  | cons b rest ih =>
    simp only [List.length_cons] at h
    exact ih (by omega) (write_inside (by omega) b inside)

end Sys2Proof.Machine.Memory

namespace Sys2Proof.Machine

theorem crc16Bytes_length (bytes : List Byte) : (crc16Bytes bytes).length = 2 := rfl

/-- The checksum pass keeps the canonical form. -/
theorem sumSections_wf (n : Nat) {m : List Host.Cell} (w : Memory.wf m = true) : Memory.wf (sumSections m n) = true := by
  induction n with
  | zero => exact w
  | succ n ih => exact Memory.writeRun_wf _ ih _

/-- The checksum pass over at most eight sections stays in the store. -/
theorem sumSections_inside (n : Nat) (hn : n ≤ 8) {m : List Host.Cell} (inside : ∀ c ∈ m, c.1 < Config.storeSize) :
    ∀ c ∈ sumSections m n, c.1 < Config.storeSize := by
  induction n with
  | zero => exact inside
  | succ n ih =>
    refine Memory.writeRun_inside _ ?_ (ih (by omega))
    simp only [crc16Bytes_length, Config.sectionSize, Config.storeSize]
    omega

/-- The store after reset is in canonical form. -/
theorem reset_store_wf : Memory.wf State.reset.desc.store = true := rfl

end Sys2Proof.Machine
end

