-- ==== Sys2Proof/Tests/Slice0.lean ====
section
/-! SUPPORT. The model's own tests: commands that are ill formed, one step of each kind of command on a small state,
and for every statement of the provers a state and operands that meet its hypotheses, clause by clause. -/

set_option Elab.async false

namespace Sys2Proof.Tests

open Sys2Proof Sys2Proof.Machine

/-! ### Small states -/

/-- The part after its clearing pass and STARTED: the descriptor EMPTY, the host link at rest. -/
def ready : State :=
  { State.reset with
    link := { State.reset.link with startUp := .running }
    desc := { State.reset.desc with state := .empty, passLatest := none } }

/-- `ready` in a presence state. -/
def inPresence (p : Presence) : State := { ready with prc := { ready.prc with presence := p } }

/-- A HANDOVER and a RECLAIM that wait for their presence state to end. -/
def handoverRequest : Message := ⟨0x06, 1, []⟩
def reclaimRequest : Message := ⟨0x07, 1, []⟩

/-- A state whose head request executes. -/
def executingWith (s : State) (m : Message) : State :=
  { s with link := { s.link with requests := [m], executing := true } }

/-- ENTERING, waiting for HOST_TX_ACTIVE to fall, its deadline at 10 ms. -/
def entering : State :=
  executingWith { ready with
    pins := ⟨true, true⟩
    prc := { ready.prc with presence := .entering, handoverDeadline := some 10000000, pendingResponse := .handover } }
    handoverRequest

/-- A frame of ten bytes in reception, its check state as after them. -/
def shortFrame : RxFrame := (List.replicate 10 (0x11 : Byte)).foldl RxFrame.take RxFrame.atStart

/-- What RXP keeps of a frame of `n` good bytes, of which these are the last four. -/
def goodFrame (n : Nat) : RxFrame := ⟨n, 0xFFFFFFFF, fcsBytes 0xFFFFFFFF, false, false⟩

/-- `s` with a frame stored in buffer 0. -/
def storing (s : State) (f : RxFrame) (bytes : List Byte) : State :=
  { s with rxp := .storing 0 f, pool := s.pool.set 0 ⟨.receiving, bytes⟩ }

/-- `s` with the link UP at 100 Mbit/s. -/
def linkUp (s : State) : State :=
  { s with lmon := { s.lmon with link := .up .r100, latest := some ⟨400000, s.time⟩, reference := some 400000 } }

/-- `s` with two replies queued in buffers 3 and 4. -/
def twoReplies (s : State) : State :=
  { s with
    txq := { s.txq with queue := [⟨3, 60⟩, ⟨4, 60⟩] }
    pool := (s.pool.set 3 ⟨.queued, List.replicate 60 1⟩).set 4 ⟨.queued, List.replicate 60 2⟩ }

/-- `s` with the head of its queue in transmission until own-clock time 6000. -/
def transmitting (s : State) : State :=
  { s with txq := { s.txq with transmitter := .sending [0x55, 0xD5] 6000 } }

/-- The time base and the own clock at a moment. -/
def atTime (s : State) (us : Nat) : State := { s with time := BitVec.ofNat 48 us, clock := us * 1000 }

/-- A descriptor state with the items the hypotheses name. -/
def inDesc (st : DescState) : State := { ready with desc := { ready.desc with state := st } }

/-- A transaction of a segment. -/
def transaction (target : SbTarget) (reading : Bool) (dataBytes : Nat) (released : Bool) : Transaction :=
  ⟨0, 25, target, reading, dataBytes, false, released⟩

/-- PUBLISHED with a transaction in progress. -/
def reader (x : Transaction) : State :=
  { ready with desc := { ready.desc with state := .published, published := 8, transaction := some x } }

/-- A pattern that asks for 08h at position 12, one that asks for nothing, and one that is not well formed. -/
def termAt12 : Term := ⟨12, ⟨0x08, 0, 0, 0⟩, ⟨0xFF, 0, 0, 0⟩⟩
def anyTerm : Term := ⟨0, ⟨0, 0, 0, 0⟩, ⟨0, 0, 0, 0⟩⟩
def lastTerm : Term := ⟨252, ⟨0, 0, 0, 0⟩, ⟨0, 0, 0, 0⟩⟩
def wideTerm : Term := ⟨253, ⟨0, 0, 0, 0⟩, ⟨0, 0, 0, 0⟩⟩

/-- A filter record of an action, an entry of a class, a template of the least body. -/
def filterOf (a : FilterAction) (p : List Term) : FilterRecord := ⟨7, a, true, p, 0⟩
def entryOf (c : AnswerClass) (p : List Term) : AnswerEntry := ⟨c, 2, p, 100, false, 0, none⟩
def leastTemplate : Template := ⟨List.replicate 14 0xAA, [⟨.frame, 6, 0, 6⟩]⟩
def mostTemplate : Template := ⟨List.replicate 128 0xAA, List.replicate 8 ⟨.station, 0, 122, 6⟩⟩

/-- `ready` with the template 2 defined and an entry in slot 31 that names it. -/
def answering (c : AnswerClass) : State :=
  { ready with
    templates := ready.templates.set 2 (some leastTemplate)
    answers := ready.answers.set 31 (some (entryOf c [anyTerm])) }

/-- `answering` with the entry's protected field as given. -/
def guarded (isProtected : Bool) : State :=
  { answering .routine with
    answers := ready.answers.set 31 (some { entryOf .routine [anyTerm] with isProtected := isProtected }) }

/-- A wake record without and one with a capture in slot 1. -/
def bareRecord (q : Word) : WakeRecord := ⟨q, 0, .linkDown, none, none, 0⟩
def captureRecord (q : Word) : WakeRecord := ⟨q, 0, .filter, some 7, some ⟨1, 300⟩, 0⟩

/-- `ready` with a capture in slot 1, buffer 5, of the record after a bare one. -/
def captured : State :=
  { ready with
    wlog := ⟨[captureRecord 1, bareRecord 2], (Vector.replicate 2 none).set 1 (some 5), some 3⟩
    pool := ready.pool.set 5 ⟨.captured, List.replicate 256 3⟩ }

/-- The response a host would read of an outcome: its kind, tag and body. -/
def answerOf : Host.Outcome State Fault Refusal → Option Message
  | .next t => t.link.tx.map Outgoing.message
  | .fault _ => none
  | .refused _ => none

/-- What a test looks at in the state an outcome leaves. -/
def look {α : Type} (f : State → α) : Host.Outcome State Fault Refusal → Option α
  | .next t => some (f t)
  | .fault _ => none
  | .refused _ => none

/-! ### Commands that are ill formed -/

theorem test_body_of_248_bytes_is_well_formed : (Instr.descWrite 1 (List.replicate 248 0)).wellFormed = true := by
  decide +kernel

theorem test_body_of_249_bytes_is_ill_formed : (Instr.descWrite 1 (List.replicate 249 0)).wellFormed = false := by
  decide +kernel

theorem test_empty_body_is_not_the_row_template_set : (Instr.templateSet 1 [3, 0, 0]).wellFormed = false := by decide

theorem test_empty_body_row_of_247_more_bytes_is_ill_formed :
    (Instr.templateSetEmptyBody 1 3 (List.replicate 247 0)).wellFormed = false
      ∧ (Instr.templateSetEmptyBody 1 3 (List.replicate 246 0)).wellFormed = true := by decide +kernel

theorem test_request_kinds_are_not_unknown :
    (Instr.unknownKind 0x01 1 []).wellFormed = false ∧ (Instr.unknownKind 0x1F 1 []).wellFormed = false
      ∧ (Instr.unknownKind 0x00 1 []).wellFormed = true ∧ (Instr.unknownKind 0x20 1 []).wellFormed = true := by decide

theorem test_unknown_kind_body_fits : (Instr.unknownKind 0x20 1 (List.replicate 249 0)).wellFormed = false := by decide +kernel

/-! ### The codes of R25 and R109 -/

/-- The example of the 16-bit code: the bytes 31h..39h give 29B1h. -/
theorem test_crc16_of_the_nine_digits :
    crc16 [0x31, 0x32, 0x33, 0x34, 0x35, 0x36, 0x37, 0x38, 0x39] = 0x29B1 := by decide +kernel

/-- The Ethernet code of the same bytes, CBF43926h in the usual tables of such codes, with its lowest-order byte
first on the line (R25, log 13). -/
theorem test_check_sequence_of_the_nine_digits :
    checkSequence [0x31, 0x32, 0x33, 0x34, 0x35, 0x36, 0x37, 0x38, 0x39] = [0x26, 0x39, 0xF4, 0xCB] := by
  decide +kernel

/-! ### One step of each kind of command -/

theorem test_idle_reset_lets_a_microsecond_pass :
    (∃ t, step State.reset = .next t ∧ t.time = 1 ∧ t.clock = 1000) := ⟨_, rfl, by decide⟩

theorem test_no_word_spells_a_command : decodeTableWord 8 0xA5 = none ∧ State.reset.withFetchWord 8 0xA5 = State.reset :=
  ⟨rfl, rfl⟩

theorem test_clearing_pass_end_sends_started :
    answerOf (exec .clearingPassEnd State.reset) = some ⟨0x41, 0, [0, 0]⟩ := by decide +kernel

theorem test_started_sent_opens_the_link :
    look (fun t => t.link.startUp) (exec .hostLinkFrameSent
      { State.reset with link := { State.reset.link with startUp := .started, tx := some ⟨⟨0x41, 0, [0, 0]⟩, 0⟩ } })
      = some .running := by decide +kernel

theorem test_identify : answerOf (exec (.identify 9 []) ready) = some ⟨0x81, 9,
    [0, 0x41, 0x20, 0, 0, 1, 0x02, 0x4C, 0x57, 0x00, 0x41, 0x20, 0, 0, 0, 0, 0, 0, 0, 0]⟩ := by decide +kernel

theorem test_status : answerOf (exec (.status 9 []) ready) = some ⟨0x82, 9,
    [0, 0, 1, 0, 0, 0, 0, 10, 0, 0, 0, 0, 0, 0, 0, 0, 0, 0, 0]⟩ := by decide +kernel

theorem test_reset_of_an_undefined_scope_bit : answerOf (exec (.resetLog 9 0x40) ready) = some ⟨0x83, 9, [3]⟩ := by
  decide +kernel

theorem test_reset_log_and_alarms : answerOf (exec (.resetLog 9 0x20) ready) = some ⟨0x83, 9, [0, 0x22]⟩ := by
  decide +kernel

theorem test_reset_descriptor_waits : look (fun t => (t.desc.state, t.link.executing, t.link.tx))
    (exec (.resetDescriptor 9 0) ready) = some (.clearing, true, none) := by decide +kernel

theorem test_setting_set_answers_the_value_before :
    answerOf (exec (.settingSet 9 [2, 0, 0, 0x0B, 0xB8]) ready) = some ⟨0x84, 9, [0, 2, 0, 0, 0x07, 0xD0]⟩ := by
  decide +kernel

theorem test_setting_get_of_a_tier : answerOf (exec (.settingGet 9 [14]) ready) = some ⟨0x85, 9, [0, 14, 0, 1, 0xFF, 0xFF]⟩ := by
  decide +kernel

theorem test_handover_switches : look (fun t => (t.prc.presence, t.lineSelPart)) (exec (.handover 9 []) ready)
    = some (.proxy, true) := by decide +kernel

theorem test_reclaim_in_passive : answerOf (exec (.reclaim 9 []) ready) = some ⟨0x87, 9, [0, 1, 0]⟩ := by decide +kernel

theorem test_wake_ack_in_waking : look (fun t => (t.prc.presence, t.wakeLine))
    (exec (.wakeAck 9 []) (inPresence .waking)) = some (.proxy, false) := by decide +kernel

theorem test_request_with_a_wrong_body_length : answerOf (exec (.wakeAck 9 [0]) ready) = some ⟨0x88, 9, [9]⟩ := by
  decide +kernel

theorem test_unknown_kinds : answerOf (exec (.unknownKind 0x20 9 []) ready) = some ⟨0xA0, 9, [8]⟩
    ∧ answerOf (exec (.unknownKind 0x80 9 []) ready) = some ⟨0xFF, 9, [8]⟩ := by decide +kernel

theorem test_filter_insert : answerOf (exec (.filterInsert 9 (0 :: (filterOf .wake [termAt12]).bytes)) ready)
    = some ⟨0x8E, 9, [0, 1]⟩ := by decide +kernel

theorem test_template_set_and_get :
    answerOf (exec (.templateSet 9 (leastTemplate.bytes 2)) ready) = some ⟨0x8C, 9, [0, 0]⟩
    ∧ answerOf (exec (.templateGet 9 [2]) (answering .routine)) = some ⟨0x8D, 9, 0 :: leastTemplate.bytes 2⟩ := by
  decide +kernel

theorem test_named_template_stays : answerOf (exec (.templateSetEmptyBody 9 2 [0]) (answering .routine))
    = some ⟨0x8C, 9, [10, 31]⟩ := by decide +kernel

theorem test_answer_clear_reports_the_entry : answerOf (exec (.answerClear 9 [31]) (answering .routine))
    = some ⟨0x8A, 9, [0, 1, 0, 0]⟩ := by decide +kernel

theorem test_desc_write_stores : look (fun t => Memory.readRun t.desc.store 1020 4)
    (exec (.descWrite 9 [3, 0xFC, 4, 1, 0, 3, 4]) (inDesc .editing)) = some [1, 0, 3, 4] := by decide +kernel

theorem test_checksum_pass_end_publishes_the_count : look (fun t => (t.desc.published, t.desc.state))
    (exec .checksumPassEnd { inDesc .summing with desc := { (inDesc .summing).desc with passCount := 1 } })
      = some (1, .holddown) := by decide +kernel

theorem test_sideband_reads_past_the_count_as_ones :
    look (fun t => (t.desc.sda, t.desc.readOffset)) (exec (.descriptorReadByte true)
      { reader (transaction .descriptor true 0 false) with
        desc := { (reader (transaction .descriptor true 0 false)).desc with published := 0 } })
      = some (.data 0xFF, 1) := by decide +kernel

theorem test_capture_get_second_half : answerOf (exec (.captureGet 9 [1, 1]) captured)
    = some ⟨0x96, 9, [0, 1, 1, 0, 0, 0, 1, 1, 44, 1, 0, 128] ++ List.replicate 128 3⟩ := by decide +kernel

theorem test_counters_get_of_a_cold_bank : answerOf (exec (.countersGet 9 []) ready)
    = some ⟨0x97, 9, 0 :: List.replicate 92 0⟩ := by decide +kernel

theorem test_notice_mask_reports_the_mask_before : answerOf (exec (.noticeMask 9 [0, 1]) ready)
    = some ⟨0x9B, 9, [0, 0xFF, 0xFF]⟩ := by decide +kernel

theorem test_alarm_set_runs : look (fun t => t.alarms[(2 : Fin 4)].state)
    (exec (.alarmSet 9 [2, 0, 0, 0, 5, 1]) ready) = some (.running 5) := by decide +kernel

theorem test_one_shot_alarm_is_spent : look (fun t => (t.alarms[(0 : Fin 4)].state, t.events.flags))
    (exec (.alarmExpiry 0) { ready with alarms := ready.alarms.set 0 ⟨.running 0, 5, false, 0, 6000, 0⟩ })
      = some (.spent, 0x0800) := by decide +kernel

theorem test_link_get_before_a_measurement : answerOf (exec (.linkGet 9 []) ready)
    = some ⟨0x9F, 9, List.replicate 23 0 ++ [1]⟩ := by decide +kernel

theorem test_full_frame_of_bytes_is_its_request :
    look (fun t => t.link.tx.map Outgoing.message) ((⟨0x05, 9, [20]⟩ : Message).bytes.foldl takeByte (.next ready))
      = some (some ⟨0x85, 9, [0, 20, 0, 0, 0, 4]⟩) := by decide +kernel

theorem test_bad_check_counts : look (fun t => t.counters[(18 : Fin 23)])
    (([0xA5, 2, 5, 9, 0, 0] : List Byte).foldl takeByte (.next ready)) = some 1 := by decide +kernel

theorem test_frame_start_takes_the_lowest_buffer : look (fun t => (t.rxp.inReception, t.pool[(0 : Fin 10)]))
    (exec (.frameStart 0x11) (linkUp ready)) = some (true, ⟨.receiving, [0x11]⟩) := by decide +kernel

theorem test_fragment_counts : look (fun t => (t.rxp, t.counters[(2 : Fin 23)]))
    (exec (.frameEnd false) (storing (linkUp ready) shortFrame (List.replicate 10 0x11))) = some (.idle, 1) := by
  decide +kernel

theorem test_unmatched_frame_in_proxy : look (fun t => (t.counters[(0 : Fin 23)], t.counters[(11 : Fin 23)]))
    (exec (.frameEnd false) (storing (linkUp (inPresence .proxy)) (goodFrame 64) (List.replicate 64 0)))
      = some (1, 1) := by decide +kernel

theorem test_transmission_pads_to_sixty : look (fun t => match t.txq.transmitter with
      | .sending line done => (line.length, done)
      | .idle => (0, 0)
      | .gap _ => (0, 0)) (exec .transmissionStart
        (twoReplies (linkUp (inPresence .proxy)))) = some (72, 5760) := by decide +kernel

theorem test_measurement_of_the_hundred_megabit_clock : measurementOf 250000 = 400000
    ∧ classOf 400000 = some .r100 := by decide +kernel

theorem test_window_end_begins_the_next : look (fun t => (t.shed.windowStart, t.shed.level))
    (exec .windowEnd (atTime ready 1000000)) = some (1000000, 0) := by decide +kernel

theorem test_supply_switch_reset_restarts_reception : look (fun t => (t.rxp, t.time, t.link.startUp))
    (exec (.supplySwitchReset 4000 true) (storing ready shortFrame [])) = some (.idle, 4000, .started) := by
  decide +kernel

/-! ### The hypotheses of the statements are met

One theorem for each statement that has hypotheses: states and operands that meet them clause by clause, at the boundary
values of their ranges. Each list of states is one clause's. -/

theorem witness_EmptyQueueStepAndTicks :
    (ready.pending = [] ∧ ready.dueEvents = [] ∧ ready.nextDue = none
      ∧ ({ ready with prc := { ready.prc with pulseEnd := some 0 } } : State).nextDue = some .escalationPulseEnd)
    ∧ (let s : State := { ready with alarms := ((ready.alarms.set 0 ⟨.running 1, 5, true, 0, 1, 0⟩).set 1
          ⟨.running 4294967295, 0xFFFFFFFF, false, 0, 2, 0⟩).set 2 ⟨.spent, 5, false, 0, 1, 1⟩ }
       s.alarms[(0 : Fin 4)].state = .running 1 ∧ s.alarms[(0 : Fin 4)].nextTick = s.time + 1
         ∧ s.alarms[(1 : Fin 4)].nextTick ≠ s.time + 1 ∧ s.alarms[(2 : Fin 4)].state = .spent
         ∧ s.alarms[(3 : Fin 4)].state = .idle) := by
  refine ⟨⟨rfl, rfl, rfl, ?_⟩, by decide +kernel⟩
  have due : ({ ready with prc := { ready.prc with pulseEnd := some 0 } } : State).dueEvents
      = [Instr.escalationPulseEnd] := rfl
  rw [State.nextDue, due]
  simp [chooseDue, Nat.mod_one]

theorem witness_ColdResetEmptiesWakeLog :
    look State.wlog (exec (.coldReset false) captured) = some (inPresence .proxy).wlog
      ∧ (inPresence .proxy).prc.presence.isProxy = true
      ∧ (inPresence .proxy).causeAllowed ⟨.alarm, some 3, false, none⟩ = true := by decide +kernel

theorem witness_CounterBankAtEachReset : HostReady ready ∧ ready.prc.presence = .passive
    ∧ ∀ m ∈ [ScopeMember.tables, .log, .counters, .descriptor, .settings, .alarms],
      ((0x3F ||| m.bit) &&& 0xC0 = 0 ∧ names (0x3F ||| m.bit) .counters = true) ∧ (0 ||| m.bit) &&& 0xC0 = 0
        ∧ (m ≠ .counters → names (0 ||| m.bit) .counters = false) := by decide +kernel

theorem witness_FilterListAtEachReset : HostReady ready ∧ ready.prc.presence = .passive
    ∧ ∀ m ∈ [ScopeMember.tables, .log, .counters, .descriptor, .settings, .alarms],
      ((0x3F ||| m.bit) &&& 0xC0 = 0 ∧ names (0x3F ||| m.bit) .tables = true) ∧ (0 ||| m.bit) &&& 0xC0 = 0
        ∧ (m ≠ .tables → names (0 ||| m.bit) .tables = false) := by decide +kernel

theorem witness_WarmResetByScope :
    (HostReady ready ∧ (0x40 ||| ScopeMember.log.bit) &&& 0xC0 ≠ 0 ∧ (0x80 ||| ScopeMember.log.bit) &&& 0xC0 ≠ 0)
    ∧ (HostReady (inPresence .proxy) ∧ (0x3D ||| ScopeMember.log.bit) &&& 0xC0 = 0
      ∧ (inPresence .proxy).prc.presence ≠ .passive)
    ∧ (ready.prc.presence = .passive ∧ names (0x35 ||| ScopeMember.log.bit) .descriptor = false
      ∧ names (0x3D ||| ScopeMember.log.bit) .descriptor = true)
    ∧ (∀ st ∈ [DescState.clearing, .empty, .editing, .summing, .holddown, .published, .verifying, .faulted],
      HostReady (inDesc st) ∧ (inDesc st).prc.presence = .passive ∧ (inDesc st).desc.transaction = none)
    ∧ HostReady (reader (transaction .other true 0 false))
    ∧ (names 0x3E .tables = false ∧ names 0x01 .tables = true ∧ names 0x02 .log = true)
    ∧ ((guarded true).answers[(31 : Fin 32)] = some { entryOf .routine [anyTerm] with isProtected := true }
      ∧ (entryOf .routine [anyTerm]).template = 2)
    ∧ (∀ i : Fin 32, ((guarded false).answers[i]).all (fun e => !e.isProtected) = true)
    ∧ (captured.wlog.slots[1] = some 5 ∧ captured.pool[(5 : Fin 10)].owner = .captured) := by decide +kernel

/-- The TABLES scope keeps the template that a protected entry names and undefines it where the entry goes. -/
theorem test_tables_scope_of_templates :
    ((guarded true).namedScopes 0x01).templates[(2 : Fin 16)] = some leastTemplate
    ∧ ((guarded false).namedScopes 0x01).templates[(2 : Fin 16)] = none
    ∧ (captured.namedScopes 0x02).pool[(5 : Fin 10)].owner = .free := by decide +kernel

theorem witness_SupplySwitchKeepsRetentionDomain : (inDesc .holddown).desc.state ≠ .summing
    ∧ (∀ p ∈ [Presence.passive, .entering, .leaving], (inPresence p).prc.presence.isProxy = false)
    ∧ (∀ p ∈ [Presence.proxy, .waking, .escalated], (inPresence p).prc.presence.isProxy = true)
    ∧ (let a : Alarm := ⟨.running 6, 9, true, 0, 1000, 0⟩
       let ticks (us : Nat) := if (a.nextTick - 0).toNat ≤ us then 1 + (us - (a.nextTick - 0).toNat) / 1000 else 0
       ticks 999 = 0 ∧ ticks 1000 = 1 ∧ ticks 5999 = 5 ∧ ticks 6000 = 6)
    ∧ (ready.alarms[(0 : Fin 4)].state = .idle
      ∧ (⟨.spent, 9, false, 0, 1000, 65535⟩ : Alarm).state = .spent) := by decide +kernel

/-- A periodic timer of 9 ms with two expiries in a reset of 16 ms takes one, and keeps its phase. -/
theorem test_alarm_across_a_reset :
    (⟨.running 6, 9, true, 0, 1000, 65534⟩ : Alarm).acrossReset 0 16000 = ⟨.running 8, 9, true, 0, 17000, 65535⟩
    ∧ (⟨.running 6, 9, false, 0, 1000, 0⟩ : Alarm).acrossReset 0 5999 = ⟨.running 1, 9, false, 0, 6000, 0⟩
    ∧ (⟨.running 6, 9, false, 0, 1000, 0⟩ : Alarm).acrossReset 0 6000 = ⟨.spent, 9, false, 0, 7000, 1⟩ := by
  decide +kernel

theorem witness_SupplySwitchSettlesPresence :
    (∀ p ∈ [Presence.passive, .entering, .proxy, .waking, .escalated, .leaving], (inPresence p).prc.presence = p)
    ∧ (let s : State := { inPresence .proxy with settings := { ready.settings with wakeOnSupplySwitch := 0 } }
       s.prc.presence = .proxy ∧ s.resetCauses 5000 = [])
    ∧ (let s : State := { inPresence .proxy with alarms := ready.alarms.set 3 ⟨.running 6, 9, true, 0, 1000, 0⟩ }
       s.prc.presence.isProxy = true ∧ s.resetCauses 5999 = [(.supplySwitch, none)]
         ∧ s.resetCauses 6000 = [(.supplySwitch, none), (.alarm, some 3)] ∧ s.resetCauses 6000 ≠ [])
    ∧ (let s : State := { inPresence .waking with wlog := ⟨List.replicate 8 (bareRecord 1), Vector.replicate 2 none, some 8⟩ }
       s.prc.presence.isProxy = true ∧ (s.wlog.kept.withCause 5 (.supplySwitch, none)).records.length = 8
         ∧ 8 < s.wlog.records.length + (s.resetCauses 0).length)
    ∧ (let s : State := { inPresence .proxy with wlog := ⟨List.replicate 7 (bareRecord 1), Vector.replicate 2 none, some 8⟩ }
       s.wlog.nextSeq = some 8 ∧ s.wlog.records.length < 8 ∧ s.resetCauses 0 = [(.supplySwitch, none)]) := by
  decide +kernel

theorem witness_HandoverSwitchesWaitsOrRefuses :
    (∀ s ∈ [ready, { ready with pins := ⟨true, false⟩ }, storing ready shortFrame []],
      HostReady s ∧ s.prc.presence = .passive ∧ s.factory.good = true ∧ s.wlog.records = [])
    ∧ (ready.pins.hostTxActive = false ∧ ready.rxp.inReception = false)
    ∧ ({ ready with pins := ⟨true, false⟩ } : State).pins.hostTxActive = true
    ∧ (storing ready shortFrame []).rxp.inReception = true
    ∧ (HostReady (inPresence .proxy) ∧ (inPresence .proxy).prc.presence ≠ .passive)
    ∧ (let s : State := { ready with factory := { ready.factory with good := false } }
       HostReady s ∧ s.prc.presence = .passive ∧ s.factory.good = false)
    ∧ (HostReady captured ∧ captured.prc.presence = .passive ∧ captured.factory.good = true
      ∧ captured.wlog.records ≠ []) := by decide +kernel

theorem witness_EnteringEndsByDeadlineOrFall :
    (let s := storing (atTime entering 10000) shortFrame []
     s.prc.presence = .entering ∧ s.prc.handoverDeadline = some 10000000 ∧ 10000000 ≤ s.clock
       ∧ s.link.requests = [handoverRequest] ∧ s.rxp.inReception = true)
    ∧ (entering.prc.presence = .entering ∧ entering.rxp.inReception = false)
    ∧ ready.prc.presence ≠ .entering := by decide +kernel

theorem witness_CutAndWaitTest :
    ((storing ready shortFrame []).rxp = .storing 0 shortFrame
      ∧ ({ ready with rxp := .streaming shortFrame } : State).rxp = .streaming shortFrame
      ∧ ({ ready with rxp := .discarding shortFrame } : State).rxp = .discarding shortFrame
      ∧ ready.rxp = .idle ∧ ({ ready with rxp := .ignoring } : State).rxp = .ignoring)
    ∧ (let s : State := { entering with pins := ⟨false, true⟩ }
       s.prc.presence = .entering ∧ s.pins.hostTxActive = false ∧ s.rxp.inReception = false
         ∧ s.link.requests = [handoverRequest])
    ∧ (ready.prc.presence ≠ .entering ∧ entering.pins.hostTxActive = true
      ∧ (storing entering shortFrame []).rxp.inReception = true ∧ ready.rxp.inReception = false) := by decide +kernel

theorem witness_ReclaimAndWakeAck :
    (HostReady ready ∧ ready.prc.presence = .passive)
    ∧ (∀ p ∈ [Presence.proxy, .waking, .escalated],
      HostReady (twoReplies (linkUp (inPresence p))) ∧ (twoReplies (linkUp (inPresence p))).prc.presence = p
        ∧ p.isProxy = true ∧ (twoReplies (linkUp (inPresence p))).phyTxen = false
        ∧ HostReady (transmitting (twoReplies (linkUp (inPresence p))))
        ∧ (transmitting (twoReplies (linkUp (inPresence p)))).phyTxen = true) := by decide +kernel

theorem witness_WakeAckTimerEscalatesThenReports :
    (let s : State := { atTime ready 2000 with
        prc := ⟨.waking, none, some 2000000, 0, none, .none⟩ }
     s.prc.presence = .waking ∧ s.prc.wakeAckTimer = some 2000000 ∧ 2000000 ≤ s.clock)
    ∧ (let s : State := { atTime ready 2000 with
        prc := ⟨.escalated, none, some 2000000, 1, some 2000000, .none⟩ }
     s.prc.presence = .escalated ∧ s.prc.escalations = 1 ∧ s.prc.wakeAckTimer = some 2000000
       ∧ s.prc.pulseEnd = some 2000000 ∧ 2000000 ≤ s.clock) := by decide +kernel

theorem witness_RequestRowIsItsFrameBytes :
    HostReady ready ∧ ready.link.assembler = .hunt
    ∧ (requestOf (.descWrite 9 (List.replicate 248 0))).isSome = true
    ∧ (Instr.descWrite 9 (List.replicate 248 0)).wellFormed = true
    ∧ (requestOf (.unknownKind 0 9 [])).isSome = true ∧ (Instr.unknownKind 0 9 []).wellFormed = true := by decide +kernel

theorem witness_AssemblerTakesBytes :
    (ready.link.startUp = .running ∧ ready.link.assembler = .hunt ∧ (0xA5 : Byte) ≠ 0xA4)
    ∧ (let s : State := { ready with link := { ready.link with assembler := .length 0 16000000 } }
       s.link.assembler = .length 0 16000000 ∧ 2 ≤ (2 : Byte).toNat ∧ (2 : Byte).toNat ≤ 250
         ∧ 2 ≤ (250 : Byte).toNat ∧ (250 : Byte).toNat ≤ 250)
    ∧ (let s : State := { ready with link := { ready.link with assembler := .gather 2 [0x19, 9] 0 16000000 } }
       s.link.assembler = .gather 2 [0x19, 9] 0 16000000 ∧ [(0x19 : Byte), 9].length + 1 < 2 + 2)
    ∧ (let check := crc16Bytes [2, 0x19, 9]
       let s : State := { ready with link :=
        { ready.link with assembler := .gather 2 ([0x19, 9] ++ check.take 1) 0 16000000 } }
       2 = ([] : List Byte).length + 2 ∧ s.link.requests.length < 4
         ∧ [0x19, 9] ++ check.take 1 ++ [check.getD 1 0]
            = 0x19 :: 9 :: ([] ++ crc16Bytes (BitVec.ofNat 8 2 :: 0x19 :: 9 :: [])))
    ∧ (State.reset.link.startUp ≠ .running ∧ requestOf (.eventsGet 9 []) = some ⟨0x19, 9, []⟩) := by decide +kernel

theorem witness_AssemblerDiscardsFrames :
    (let s : State := { ready with link := { ready.link with assembler := .length 0 16000000 } }
     s.link.startUp = .running ∧ s.link.assembler = .length 0 16000000 ∧ (1 : Byte).toNat < 2 ∧ 250 < (251 : Byte).toNat)
    ∧ (let s : State := { ready with link := { ready.link with assembler := .gather 2 [0x19, 9, 0] 0 16000000 } }
       s.link.startUp = .running ∧ s.link.assembler = .gather 2 [0x19, 9, 0] 0 16000000
         ∧ [(0x19 : Byte), 9, 0].length = 2 + 1
         ∧ ([0x19, 9, 0] ++ [0]).drop 2 ≠ crc16Bytes (BitVec.ofNat 8 2 :: [(0x19 : Byte), 9, 0].take 2))
    ∧ (let s : State := { atTime ready 16000 with
        link := { ready.link with assembler := .gather 2 [0x19] 0 16000000 } }
       s.link.assembler = .gather 2 [0x19] 0 16000000 ∧ 0 + 16000000 ≤ s.clock) := by decide +kernel

theorem witness_RequestQueueAppendsOrDrops :
    requestOf (.wakelogTake 9 []) = some ⟨0x15, 9, []⟩
    ∧ (let s : State := { ready with link := { ready.link with requests := List.replicate 3 handoverRequest } }
       s.link.startUp = .running ∧ s.link.requests.length < 4)
    ∧ (let s : State := { ready with link := { ready.link with requests := List.replicate 4 handoverRequest } }
       s.link.startUp = .running ∧ 4 ≤ s.link.requests.length) := by decide +kernel

theorem witness_FreeSideSendsAndNextExecutes :
    (let s : State := { ready with link := { ready.link with
        tx := some ⟨⟨0x41, 0, [0, 0]⟩, 0⟩, startUp := .started, slot := some ⟨0x86, 1, [0, 0]⟩ } }
     s.link.startUp ≠ .clearing ∧ s.link.requests = [] ∧ s.link.slot = some ⟨0x86, 1, [0, 0]⟩)
    ∧ (let s : State := { ready with
        link := { ready.link with tx := some ⟨⟨0x41, 0, [0, 0]⟩, 0⟩, startUp := .started }
        events := { ready.events with flags := 0x8000, notices := ready.events.notices.set 15 (some 7) } }
       s.link.slot = none ∧ s.events.notices[(15 : Fin 16)] = some 7
         ∧ ∀ k : Fin 16, k < 15 → s.events.notices[k] = none)
    ∧ (let s : State := { ready with link := { ready.link with
        tx := some ⟨⟨0x40, 0, []⟩, 0⟩, executing := true, requests := [⟨0x14, 1, [1]⟩, ⟨0x02, 2, []⟩, ⟨0x17, 3, []⟩] } }
       s.link.startUp = .running ∧ s.link.slot = none ∧ s.link.executing = true
         ∧ ∀ k : Fin 16, s.events.notices[k] = none)
    ∧ (let s : State := { ready with link := { ready.link with tx := some ⟨⟨0x41, 0, [0, 0]⟩, 0⟩ } }
       s.link.slot = none ∧ ∀ k : Fin 16, s.events.notices[k] = none)
    ∧ (let s : State := { ready with link := { ready.link with
        tx := some ⟨⟨0x86, 0, [0, 0]⟩, 0⟩, slot := some ⟨0x86, 1, [0, 0]⟩
        requests := [⟨0x02, 2, []⟩, ⟨0x17, 3, []⟩, ⟨0x19, 4, []⟩] } }
       s.link.startUp = .running ∧ s.link.executing = false ∧ s.link.slot = some ⟨0x86, 1, [0, 0]⟩
         ∧ s.link.requests = ⟨0x02, 2, []⟩ :: [⟨0x17, 3, []⟩, ⟨0x19, 4, []⟩])
    ∧ (let s : State := { ready with link := { ready.link with
        tx := some ⟨⟨0x86, 0, [0, 0]⟩, 0⟩, requests := [⟨0x02, 2, []⟩] } }
       s.link.executing = false ∧ s.link.slot = none ∧ s.link.requests = ⟨0x02, 2, []⟩ :: []
         ∧ ∀ k : Fin 16, s.events.notices[k] = none)
    ∧ (let s : State := { ready with link := { ready.link with
        tx := some ⟨⟨0x86, 0, [0, 0]⟩, 0⟩, slot := some ⟨0x86, 1, [0, 0]⟩, requests := [⟨0x19, 2, []⟩] } }
       s.link.startUp = .running ∧ s.link.executing = false ∧ s.link.requests = [⟨0x19, 2, []⟩])
    ∧ (let u : State := { ready with link := { ready.link with
        tx := some ⟨⟨0x86, 0, [0, 0]⟩, 0⟩, requests := [⟨0x02, 2, []⟩] } }
       u.link.tx.isSome = true ∧ u.link.executing = false ∧ u.link.slot = none ∧ u.link.requests = ⟨0x02, 2, []⟩ :: [])
    ∧ (let u (requests : List Message) : State := { ready with
        link := { ready.link with requests := requests }
        events := { ready.events with flags := 0x8000, notices := ready.events.notices.set 15 (some 7) } }
       ∀ requests ∈ [[], [(⟨0x02, 2, []⟩ : Message)]],
         (u requests).link.tx = none ∧ (u requests).link.startUp ≠ .clearing ∧ (u requests).link.slot = none
           ∧ (u requests).events.notices[(15 : Fin 16)] = some 7 ∧ (u requests).link.executing = false
           ∧ (u requests).link.requests = requests
           ∧ ∀ k : Fin 16, k < 15 → (u requests).events.notices[k] = none) := by decide +kernel

/-- Ten bytes take 868,056 ns at 115,200 baud and 100 µs at 1,000,000 baud. -/
theorem test_line_time_of_ten_bytes : lineNs false 10 = 868056 ∧ lineNs true 10 = 100000 := by decide +kernel

theorem witness_RequestsOfUnknownKindOrLength :
    (HostReady ready ∧ isRequestKind 0 = false ∧ isRequestKind 0x20 = false ∧ isRequestKind 0xFF = false)
    ∧ (requestOf (.identify 9 [0]) = some ⟨0x01, 9, [0]⟩ ∧ requestOf (.settingGet 9 []) = some ⟨0x05, 9, []⟩
      ∧ requestOf (.captureGet 9 [0, 0, 0]) = some ⟨0x16, 9, [0, 0, 0]⟩
      ∧ requestOf (.descRead 9 [0, 0]) = some ⟨0x13, 9, [0, 0]⟩
      ∧ requestOf (.settingSet 9 [1]) = some ⟨0x04, 9, [1]⟩ ∧ requestOf (.alarmSet 9 []) = some ⟨0x1C, 9, []⟩
      ∧ requestOf (.linkGet 9 [1]) = some ⟨0x1F, 9, [1]⟩)
    ∧ (requestOf (.descWrite 9 [0, 0, 1]) = some ⟨0x12, 9, [0, 0, 1]⟩
      ∧ [(0 : Byte), 0, 1].length ≠ 3 + (1 : Byte).toNat)
    ∧ (requestOf (.filterInsert 9 [0, 0, 0, 0, 0, 1]) = some ⟨0x0E, 9, [0, 0, 0, 0, 0, 1]⟩
      ∧ [(0 : Byte), 0, 0, 0, 0, 1].length ≠ 6 + 9 * (1 : Byte).toNat)
    ∧ (requestOf (.answerSet 9 [0, 0, 0, 0, 0, 0, 0, 1]) = some ⟨0x09, 9, [0, 0, 0, 0, 0, 0, 0, 1]⟩
      ∧ [(0 : Byte), 0, 0, 0, 0, 0, 0, 1].length ≠ 7 + 9 * (0 : Byte).toNat)
    ∧ (requestOf (.templateSet 9 [0, 1, 0xAA, 1]) = some ⟨0x0C, 9, [0, 1, 0xAA, 1]⟩
      ∧ [(0 : Byte), 1, 0xAA, 1].length ≠ 3 + (1 : Byte).toNat + 4 * (1 : Byte).toNat) := by decide +kernel

/-- At the end of an interval whose measurement is not yet taken LINK_GET reports an age of 9 (R147, log 32). -/
theorem test_measurement_age_at_the_intervals_end :
    (atTime ready 10000).measurementAge ⟨400000, 0⟩ = 9 ∧ (atTime ready 9999).measurementAge ⟨400000, 0⟩ = 9
    ∧ (atTime ready 999).measurementAge ⟨400000, 0⟩ = 0 := by decide +kernel

theorem witness_IdentifyStatusAndLinkGet : (HostReady ready ∧ ready.factory.good = true)
    ∧ (let s : State := { ready with factory := { ready.factory with good := false } }
       HostReady s ∧ s.factory.good = false) := by decide +kernel

theorem witness_SettingRequests :
    HostReady ready
    ∧ (∀ row ∈ ([(1, 1, 100), (7, 64, 2048), (20, 1, 6)] : List (Nat × Nat × Nat)),
      settingRange row.1 = some row.2 ∧ (ready.settings.value row.1).isSome = true)
    ∧ (ofBytesBE [0, 0, 0, 64] = 64 ∧ ofBytesBE [0, 0, 8, 0] = 2048)
    ∧ (Tier.bytes ⟨true, 3, 65535, 3⟩ = [1, 0x33, 0xFF, 0xFF] ∧ Tier.bytes ⟨false, 0, 1, 1⟩ = [0, 0x01, 0, 1])
    ∧ ((0 : Byte).toNat = 0 ∧ 20 < (21 : Byte).toNat ∧ ofBytesBE [0, 0, 0, 63] < 64 ∧ 2048 < ofBytesBE [0, 0, 8, 1])
    ∧ (14 ≤ (14 : Byte).toNat ∧ (17 : Byte).toNat ≤ 17)
    ∧ ((14 : Byte).toNat = 14 + (0 : Fin 4).val ∧ (17 : Byte).toNat = 14 + (3 : Fin 4).val)
    ∧ (ready.settings.number (1 : Byte).toNat = some 10 ∧ ready.settings.number (20 : Byte).toNat = some 4)
    ∧ (1 < (2 : Byte).toNat ∧ 3 < (0x41 : Byte).toNat / 16 ∧ (0x30 : Byte).toNat % 16 = 0
      ∧ 3 < (0x34 : Byte).toNat % 16 ∧ ofBytesBE [0, 0] = 0) := by decide +kernel

theorem witness_CounterAndEventRequests : HostReady ready := by decide +kernel

theorem witness_FilterInsertPlacesOrRefuses :
    (let r := filterOf .block (lastTerm :: List.replicate 7 termAt12)
     let s : State := { ready with filters := List.replicate 15 (filterOf .wake [anyTerm]) }
     HostReady s ∧ r.hits = 0 ∧ patternWellFormed r.pattern = true ∧ (0 : Byte).toNat ≤ s.filters.length
       ∧ (15 : Byte).toNat ≤ s.filters.length ∧ s.filters.length < 16)
    ∧ (patternWellFormed [wideTerm] = false ∧ patternWellFormed [] = false
      ∧ patternWellFormed (List.replicate 9 anyTerm) = false ∧ (3 : Byte).toNat > 2 ∧ (2 : Byte).toNat > 1)
    ∧ (ready.filters.length < (1 : Byte).toNat)
    ∧ (let s : State := { ready with filters := List.replicate 16 (filterOf .wake [anyTerm]) }
       HostReady s ∧ (16 : Byte).toNat ≤ s.filters.length ∧ 16 ≤ s.filters.length
         ∧ patternWellFormed [anyTerm] = true) := by decide +kernel

theorem witness_FilterRemoveAndGet :
    let s : State := { ready with filters := [filterOf .wake [anyTerm], filterOf .block [termAt12]] }
    HostReady s ∧ s.filters[(0 : Byte).toNat]? = some (filterOf .wake [anyTerm])
      ∧ s.filters[(1 : Byte).toNat]? = some (filterOf .block [termAt12]) ∧ s.filters.length ≤ (2 : Byte).toNat := by
  decide +kernel

theorem witness_TemplateRequests :
    (HostReady ready ∧ ∀ t ∈ [leastTemplate, mostTemplate], 14 ≤ t.body.length ∧ t.body.length ≤ 128
      ∧ t.edits.length ≤ 8
      ∧ ∀ o ∈ t.edits, copyOpOf t.body.length ⟨o.source.code, o.srcOffset, o.dstOffset, o.len⟩ = some o)
    ∧ (HostReady (answering .routine) ∧ (answering .routine).templates[(2 : Fin 16)] = some leastTemplate
      ∧ (answering .routine).answers[(31 : Fin 32)] = some (entryOf .routine [anyTerm])
      ∧ (entryOf .routine [anyTerm]).template = 2
      ∧ ∀ j : Fin 32, j < 31 → (answering .routine).answers[j] = none)
    ∧ (∀ i : Fin 32, ready.answers[i] = none)
    ∧ (15 < (16 : Byte).toNat ∧ (13 : Byte).toNat < 14 ∧ 128 < (129 : Byte).toNat ∧ 8 < (9 : Byte).toNat
      ∧ copyOpOf 14 ⟨0, 0, 9, 6⟩ = none)
    ∧ ready.templates[(15 : Fin 16)] = none := by decide +kernel

theorem witness_AnswerRequests :
    (HostReady (answering .routine) ∧ patternWellFormed (entryOf .routine [lastTerm]).pattern = true
      ∧ (answering .routine).templates[(entryOf .routine [lastTerm]).template].isSome = true)
    ∧ ((31 : Byte).toNat = (31 : Fin 32).val
      ∧ (answering .routine).answers[(31 : Fin 32)] = some (entryOf .routine [anyTerm])
      ∧ (0 : Byte).toNat = (0 : Fin 32).val ∧ (answering .routine).answers[(0 : Fin 32)] = none ∧ 31 < (32 : Byte).toNat)
    ∧ (patternWellFormed (entryOf .routine [wideTerm]).pattern = false
      ∧ ready.templates[(entryOf .routine [anyTerm]).template] = none)
    ∧ (2 < (3 : Byte).toNat ∧ 1 < (2 : Byte).toNat ∧ 15 < (16 : Byte).toNat
      ∧ (15 : Byte).toNat = (15 : Fin 16).val ∧ ready.templates[(15 : Fin 16)] = none) := by decide +kernel

theorem witness_DescOpenByState :
    (∀ st ∈ [DescState.clearing, .empty, .editing, .summing, .holddown, .published, .verifying, .faulted],
      HostReady (inDesc st) ∧ (inDesc st).desc.state = st ∧ (inDesc st).desc.transaction = none)
    ∧ (let x := transaction .descriptor true 0 false
       HostReady (reader x) ∧ (reader x).desc.state = .published ∧ (reader x).desc.transaction = some x) := by
  decide +kernel

theorem witness_DescWriteStoresItsBytes :
    (∀ st ∈ [DescState.clearing, .summing, .verifying], HostReady (inDesc st) ∧ (inDesc st).desc.state.inPass = true)
    ∧ (∀ st ∈ [DescState.empty, .holddown, .published, .faulted],
      HostReady (inDesc st) ∧ (inDesc st).desc.state.inPass = false ∧ (inDesc st).desc.state ≠ .editing)
    ∧ (HostReady (inDesc .editing) ∧ Memory.wf (inDesc .editing).desc.store = true
      ∧ (inDesc .editing).desc.state = .editing)
    ∧ ((0 : Byte).toNat = 0 ∧ 64 < (65 : Byte).toNat ∧ 1024 < ofBytesBE [3, 0xC1] + (64 : Byte).toNat)
    ∧ (1 ≤ (1 : Byte).toNat ∧ (64 : Byte).toNat ≤ 64 ∧ ofBytesBE [3, 0xC0] + (64 : Byte).toNat ≤ 1024
      ∧ ofBytesBE [3, 0xFF] + (1 : Byte).toNat ≤ 1024) := by decide +kernel

theorem witness_DescReadReportsStore :
    (∀ st ∈ [DescState.clearing, .summing, .verifying], HostReady (inDesc st) ∧ (inDesc st).desc.state.inPass = true)
    ∧ (∀ st ∈ [DescState.empty, .editing, .holddown, .published, .faulted],
      HostReady (inDesc st) ∧ (inDesc st).desc.state.inPass = false)
    ∧ ((0 : Byte).toNat = 0 ∧ 64 < (65 : Byte).toNat ∧ 1024 < ofBytesBE [3, 0xC1] + (64 : Byte).toNat)
    ∧ (1 ≤ (1 : Byte).toNat ∧ (64 : Byte).toNat ≤ 64 ∧ ofBytesBE [3, 0xC0] + (64 : Byte).toNat ≤ 1024) := by
  decide +kernel

theorem witness_DescPublishBeginsPass :
    (HostReady (inDesc .empty) ∧ (inDesc .empty).desc.state ≠ .editing)
    ∧ (HostReady (inDesc .editing) ∧ (inDesc .editing).desc.state = .editing)
    ∧ ((0 : Byte).toNat = 0 ∧ 8 < (9 : Byte).toNat ∧ 1 ≤ (1 : Byte).toNat ∧ (8 : Byte).toNat ≤ 8) := by decide +kernel

theorem witness_ChecksumPassAndHoldDownEnd :
    (∀ us ∈ [0, 149999, 150000],
      let s : State := { atTime (inDesc .summing) us with
        desc := { (inDesc .summing).desc with passCount := 8 } }
      s.desc.state = .summing ∧ Memory.wf s.desc.store = true ∧ s.desc.passCount ≤ 8)
    ∧ ((inDesc .summing).settings.holdDownMs * 1000 ≤ (150000 : Time).since (inDesc .summing).desc.readyLow
      ∧ (149999 : Time).since (inDesc .summing).desc.readyLow < (inDesc .summing).settings.holdDownMs * 1000)
    ∧ (let s : State := { inDesc .holddown with desc := { (inDesc .holddown).desc with holdDownEnd := some 0 } }
       s.desc.state = .holddown ∧ s.desc.holdDownEnd = some s.time) := by decide +kernel

theorem witness_ClearingPassEndEmptiesStore :
    (State.reset.desc.state = .clearing ∧ State.reset.link.startUp = .clearing ∧ State.reset.link.requests = []
      ∧ State.reset.link.slot = none)
    ∧ (let s := executingWith (inDesc .clearing) ⟨0x03, 9, [0x08]⟩
       s.desc.state = .clearing ∧ s.link.startUp = .running ∧ s.link.executing = true
         ∧ s.link.requests = [⟨0x03, 9, [0x08]⟩] ∧ s.link.slot = none ∧ s.link.tx = none
         ∧ s.events.firstPending = none) := by decide +kernel

/-- Two stores that differ in a check byte only are not both good. -/
theorem store_with_a_bad_section : ∃ store, sectionGood store 0 = false := by
  have content : sectionContent [(127, 1)] 0 = sectionContent [] 0 := by decide +kernel
  have tails : Memory.readRun [(127, 1)] (Config.sectionSize * 0 + 126) 2
      ≠ Memory.readRun [] (Config.sectionSize * 0 + 126) 2 := by decide +kernel
  by_cases good : sectionGood [] 0 = true
  · refine ⟨[(127, 1)], ?_⟩
    rw [Bool.eq_false_iff]
    intro other
    rw [sectionGood, beq_iff_eq] at good other
    exact tails (by rw [other, good, content])
  · exact ⟨[], by simpa using good⟩

theorem witness_VerifyPassEndJudgesSectionsAndReset :
    ((inDesc .verifying).desc.state = .verifying ∧ (inDesc .verifying).link.executing = false
      ∧ sectionsGood (inDesc .verifying).desc.store (inDesc .verifying).desc.published = true
      ∧ (149999 : Time).since (inDesc .verifying).desc.readyLow < (inDesc .verifying).settings.holdDownMs * 1000
      ∧ (inDesc .verifying).settings.holdDownMs * 1000 ≤ (150000 : Time).since (inDesc .verifying).desc.readyLow)
    ∧ (∃ store, let s : State := { inDesc .verifying with desc :=
        { (inDesc .verifying).desc with published := 1, store := store } }
       s.desc.state = .verifying ∧ 0 < s.desc.published ∧ sectionGood s.desc.store 0 = false
         ∧ s.prc.presence.isProxy = false)
    ∧ (let s := executingWith (inDesc .verifying) ⟨0x03, 9, [0x08]⟩
       s.desc.state = .verifying ∧ s.desc.transaction = none ∧ s.link.executing = true
         ∧ s.link.requests = [⟨0x03, 9, [0x08]⟩] ∧ s.prc.presence.isProxy = false) :=
  ⟨by decide +kernel,
    have ⟨store, bad⟩ := store_with_a_bad_section
    ⟨store, rfl, Nat.zero_lt_one, bad, rfl⟩, by decide +kernel⟩

theorem witness_BusStartsAndAddressBytes :
    (ready.desc.transaction = none
      ∧ (reader (transaction .other true 0 false)).desc.transaction = some (transaction .other true 0 false))
    ∧ (let s : State := { inDesc .published with desc := { (inDesc .published).desc with bus := .afterStart 0 25 } }
       s.desc.bus = .afterStart 0 25 ∧ s.desc.state = .published ∧ s.desc.deferred = .none)
    ∧ (let s : State := { inDesc .empty with desc := { (inDesc .empty).desc with bus := .afterStart 0 25 } }
       s.desc.bus = .afterStart 0 25 ∧ s.desc.state ≠ .published)
    ∧ (let x := transaction .descriptor true 5 true
       let s : State := { reader x with desc := { (reader x).desc with bus := .afterRepeatedStart, deferred := .descOpen } }
       s.desc.bus = .afterRepeatedStart ∧ s.desc.transaction = some x ∧ s.desc.state = .published)
    ∧ ((0x74 : Byte).toNat / 2 = 0x3A ∧ (0x77 : Byte).toNat / 2 = 0x3B ∧ (0x78 : Byte).toNat / 2 ≠ 0x3A
      ∧ (0x78 : Byte).toNat / 2 ≠ 0x3B) := by decide +kernel

theorem witness_SidebandSegments :
    (∀ target ∈ [SbTarget.pageSelect, .descriptor], ∀ reading ∈ [true, false], ∀ count ∈ [0, 1],
      ∀ released ∈ [true, false],
      let x := transaction target reading count released
      (reader x).desc.bus = .nothing ∧ (reader x).desc.transaction = some x ∧ x.target = target
        ∧ x.reading = reading ∧ x.dataBytes = count ∧ x.released = released)
    ∧ ((3 : Byte).toNat = (3 : Fin 4).val ∧ 4 ≤ (4 : Byte).toNat) := by decide +kernel

theorem witness_TransactionEndsAndDeferredRequest :
    ready.desc.transaction = none
    ∧ (let x := transaction .descriptor true 1 false
       let s := executingWith (atTime (reader x) 25000) ⟨0x11, 9, []⟩
       (s.desc.transaction = some x ∧ s.desc.deferred = .none ∧ x.stallMs * 1000 ≤ s.time.since x.start)
       ∧ (({ s with desc := { s.desc with deferred := .descOpen } } : State).desc.deferred = .descOpen
         ∧ s.link.requests = [⟨0x11, 9, []⟩])
       ∧ ({ s with desc := { s.desc with deferred := .reset } } : State).desc.deferred = .reset) := by decide +kernel

theorem witness_WakelogTakeAndCaptureGet :
    (HostReady ready ∧ ready.wlog.records = [])
    ∧ (let s : State := { ready with wlog := ⟨[bareRecord 1], Vector.replicate 2 none, some 2⟩ }
       HostReady s ∧ s.wlog.records = [bareRecord 1] ∧ (bareRecord 1).capture = none)
    ∧ (HostReady captured ∧ captured.wlog.records = [captureRecord 1, bareRecord 2]
      ∧ (captureRecord 1).capture = some ⟨1, 300⟩ ∧ captured.wlog.slots[(1 : Fin 2)] = some 5
      ∧ captured.wlog.slots[(0 : Fin 2)] = none)
    ∧ (1 < (2 : Byte).toNat ∧ (0 : Byte).toNat = (0 : Fin 2).val ∧ (1 : Byte).toNat = (1 : Fin 2).val
      ∧ (1 : Byte).toNat ≤ 1 ∧ captured.wlog.records = [] ++ captureRecord 1 :: [bareRecord 2])
    ∧ (let s : State := { captured with wlog := { captured.wlog with records := [bareRecord 1, captureRecord 2] } }
       s.wlog.records = [bareRecord 1] ++ captureRecord 2 :: [] ∧ (bareRecord 1).capture = none) := by decide +kernel

theorem witness_WakeCauseAddsOrCoalesces :
    (ready.causeAllowed ⟨.linkUp, none, false, none⟩ = false ∧ ready.prc.presence.isProxy = false)
    ∧ (let s : State := { inPresence .proxy with
        wlog := ⟨List.replicate 7 (bareRecord 1), #v[some 3, some 4], some 0xFFFFFFFF⟩ }
       s.causeAllowed ⟨.alarm, some 0, false, none⟩ = true ∧ s.prc.presence.isProxy = true
         ∧ s.wlog.nextSeq = some 0xFFFFFFFF ∧ s.wlog.records.length < 8 ∧ ∀ k : Fin 2, s.wlog.slots[k] ≠ none)
    ∧ (let s := storing (inPresence .waking) shortFrame []
       s.causeAllowed ⟨.filter, some 7, false, some (0, 10)⟩ = true ∧ s.prc.presence.isProxy = true
         ∧ s.wlog.nextSeq = some 1 ∧ s.wlog.slots[(0 : Fin 2)] = none)
    ∧ (let s : State := { inPresence .proxy with wlog := ⟨[], #v[some 3, none], some 1⟩ }
       s.wlog.slots[(1 : Fin 2)] = none ∧ ∀ j : Fin 2, j < 1 → s.wlog.slots[j] ≠ none)
    ∧ (let s : State := { inPresence .proxy with
        wlog := ⟨List.replicate 7 (bareRecord 1) ++ [bareRecord 8], Vector.replicate 2 none, some 9⟩ }
       s.causeAllowed ⟨.linkDown, none, false, none⟩ = true
         ∧ s.wlog.records = List.replicate 7 (bareRecord 1) ++ [bareRecord 8]
         ∧ (List.replicate 7 (bareRecord 1)).length = 7)
    ∧ (let s : State := { inPresence .proxy with wlog := ⟨[], Vector.replicate 2 none, none⟩ }
       s.wlog.records = [] ∧ s.wlog.nextSeq = none) := by decide +kernel

/-- Before an expiry that is due ALARM_GET reports remaining 1 (R169, log 26). -/
theorem test_alarm_get_before_a_due_expiry :
    let s : State := { ready with alarms := ready.alarms.set 3 ⟨.running 0, 5, true, 0, 6000, 0⟩ }
    answerOf (exec (.alarmGet 9 [3]) s) = some ⟨0x9E, 9, [0, 3, 1, 0, 0, 0, 5, 1, 1, 0, 0, 0, 1, 0, 0]⟩ := by
  decide +kernel

theorem witness_AlarmRequestsAndExpiry :
    HostReady ready
    ∧ ((3 : Byte).toNat = (3 : Fin 4).val ∧ ofBytesBE [0xFF, 0xFF, 0xFF, 0xFF] ≠ 0 ∧ ofBytesBE [0, 0, 0, 1] ≠ 0
      ∧ (1 : Byte).toNat ≤ 1)
    ∧ (3 < (4 : Byte).toNat ∧ ofBytesBE [0, 0, 0, 0] = 0 ∧ 1 < (2 : Byte).toNat)
    ∧ (let s : State := { ready with alarms := ready.alarms.set 3 ⟨.running 0, 5, true, 0, 6000, 0⟩ }
       s.alarms[(3 : Fin 4)].state = .running 0) := by decide +kernel

theorem witness_LinkSettlesAndEntersUp :
    (let s : State := { ready with lmon := { ready.lmon with latest := some ⟨400000, 0⟩ } }
     s.lmon.link = .down ∧ s.lmon.latest = some ⟨400000, 0⟩ ∧ classOf 400000 = some .r100)
    ∧ ((linkUp ready).lmon.link ≠ .down ∧ ready.lmon.latest.bind (fun m => classOf m.value) = none)
    ∧ (let s : State := { ready with lmon := { ready.lmon with link := .settling .r1000 0 } }
       s.lmon.link = .settling .r1000 s.time)
    ∧ ready.lmon.link = .down := by decide +kernel

theorem witness_LinkLeavesUp :
    (linkUp ready).lmon.link = .up .r100
    ∧ ((storing (linkUp ready) shortFrame []).rxp.inReception = true ∧ (linkUp ready).rxp.inReception = false)
    ∧ (3 ∈ (twoReplies (linkUp (inPresence .proxy))).txq.queue.map QueuedReply.buf)
    ∧ (storing (linkUp ready) shortFrame []).rxp = .storing 0 shortFrame
    ∧ (ready.prc.presence = .passive ∧ (inPresence .escalated).prc.presence.isProxy = true)
    ∧ (entering.prc.presence = .entering ∧ entering.pins.hostTxActive = true)
    ∧ (let s := storing { entering with pins := ⟨false, true⟩ } shortFrame []
       s.prc.presence = .entering ∧ s.pins.hostTxActive = false ∧ s.rxp.inReception = true
         ∧ s.link.requests = [handoverRequest])
    ∧ (let s := transmitting (executingWith (twoReplies (linkUp (inPresence .leaving))) reclaimRequest)
       s.prc.presence = .leaving ∧ s.phyTxen = true ∧ s.link.requests = [reclaimRequest]) := by decide +kernel

theorem witness_MeasurementActsByLinkState :
    (let s : State := { atTime ready 10000 with pins := ⟨false, true⟩ }
     s.lmon.intervalEnd = s.time ∧ s.lmon.link = .down ∧ s.pins.phyLink = true)
    ∧ (measurementOf 237500 = 380000 ∧ classOf 380000 = some .r100 ∧ classOf 379999 = none
      ∧ classOf 420000 = some .r100 ∧ classOf 42000 = some .r10 ∧ measurementOf 0 = 0 ∧ classOf 0 = none
      ∧ classOf 1900000 = some .r1000 ∧ classOf 2100001 = none ∧ measurementOf 9999999 = 4000000)
    ∧ (let s : State := { atTime ready 10000 with lmon := { ready.lmon with link := .settling .r100 20000 } }
       s.lmon.intervalEnd = s.time ∧ s.lmon.link = .settling .r100 20000)
    ∧ (let s := atTime (linkUp ready) 10000
       s.lmon.intervalEnd = s.time ∧ s.lmon.link = .up .r100 ∧ s.lmon.reference = some 400000
         ∧ ((404000 - 400000) + (400000 - 404000)) * 1000 ≤ 400000 * s.settings.rateTolerancePermille
         ∧ 400000 * s.settings.rateTolerancePermille < ((404001 - 400000) + (400000 - 404001)) * 1000
         ∧ classOf 404001 = some .r100 ∧ classOf 0 ≠ some .r100) := by decide +kernel

theorem witness_RecenterAndQuarantine :
    (∀ c, ready.lmon.link ≠ .up c)
    ∧ ((linkUp ready).lmon.link = .up .r100 ∧ (linkUp ready).lmon.quarantineEnd = none
      ∧ (linkUp ready).lmon.lastRecenter = none ∧ (linkUp ready).settings.quarantineEnable = 1)
    ∧ (let s : State := { linkUp (atTime ready 50001) with
        lmon := { (linkUp ready).lmon with lastRecenter := some 0 } }
       s.lmon.lastRecenter = some 0 ∧ s.settings.recenterWindowMs * 1000 < (s.time - 0).toNat)
    ∧ (let s : State := { linkUp (atTime ready 50000) with
        lmon := { (linkUp ready).lmon with lastRecenter := some 0 } }
       s.lmon.link = .up .r100 ∧ s.lmon.quarantineEnd = none ∧ s.settings.quarantineEnable = 1
         ∧ (s.time - 0).toNat ≤ s.settings.recenterWindowMs * 1000)
    ∧ (let s : State := { linkUp ready with lmon := { (linkUp ready).lmon with quarantineEnd := some 0 } }
       s.lmon.link = .up .r100 ∧ s.lmon.quarantineEnd = some s.time) :=
  ⟨fun _ h => (by cases h), by decide +kernel, by decide +kernel, by decide +kernel, by decide +kernel⟩

theorem witness_WindowEndEvaluatesTiers :
    (let s := atTime ready 1000000
     s.shed.windowMs * 1000 ≤ (s.time - s.shed.windowStart).toNat
       ∧ ∀ k : Fin 4, ¬(s.settings.tiers[k].enabled = true
         ∧ s.settings.tiers[k].threshold ≤ s.shed.counts[s.settings.tiers[k].source]))
    ∧ (let s : State := { atTime ready 1000000 with
        shed := { ready.shed with counts := #v[10, 0, 9, 0] }
        settings := { ready.settings with tiers := #v[⟨true, 2, 10, 1⟩, ⟨true, 0, 10, 3⟩, ⟨true, 0, 1, 2⟩, Tier.default] } }
       (s.settings.tiers[(1 : Fin 4)].enabled = true
         ∧ s.settings.tiers[(1 : Fin 4)].threshold ≤ s.shed.counts[s.settings.tiers[(1 : Fin 4)].source])
       ∧ ∀ j : Fin 4, j < 1 → ¬(s.settings.tiers[j].enabled = true
         ∧ s.settings.tiers[j].threshold ≤ s.shed.counts[s.settings.tiers[j].source])) := by decide +kernel

theorem witness_FrameStartAndBytes :
    (ready.rxp = .idle ∧ ready.linkReady = false)
    ∧ ((linkUp ready).rxp = .idle ∧ (linkUp ready).linkReady = true ∧ (linkUp ready).pool[(0 : Fin 10)].owner = .free)
    ∧ (let s : State := { linkUp ready with pool := (Vector.replicate 10 ⟨.queued, []⟩).set 9 ⟨.free, []⟩ }
       s.linkReady = true ∧ s.pool[(9 : Fin 10)].owner = .free ∧ ∀ j : Fin 10, j < 9 → s.pool[j].owner ≠ .free)
    ∧ (let s : State := { linkUp ready with pool := Vector.replicate 10 ⟨.queued, []⟩ }
       s.rxp = .idle ∧ s.linkReady = true ∧ ∀ i : Fin 10, s.pool[i].owner ≠ .free)
    ∧ ((storing ready shortFrame []).rxp = .storing 0 shortFrame
      ∧ ({ ready with rxp := .streaming shortFrame } : State).rxp = .streaming shortFrame
      ∧ ({ ready with rxp := .discarding shortFrame } : State).rxp = .discarding shortFrame
      ∧ ({ ready with rxp := .ignoring } : State).rxp = .ignoring) := by decide +kernel

theorem witness_FrameEndClassifiesOrWalks :
    (({ ready with rxp := .ignoring } : State).rxp = .ignoring
      ∧ ({ ready with rxp := .discarding shortFrame } : State).rxp = .discarding shortFrame
      ∧ (storing ready shortFrame []).rxp = .storing 0 shortFrame
      ∧ ({ ready with rxp := .streaming shortFrame } : State).rxp = .streaming shortFrame)
    ∧ (shortFrame.checkGood = false ∧ (goodFrame 63).checkGood = true ∧ (goodFrame 63).damaged = false
      ∧ (goodFrame 63).received < 64 ∧ 64 ≤ (goodFrame 64).received
      ∧ ready.settings.maxFrameBytes < (goodFrame 1519).received
      ∧ ¬ready.settings.maxFrameBytes < (goodFrame 1518).received)
    ∧ (let s := storing (inPresence .proxy) (goodFrame 1518) (List.replicate 256 0)
       s.prc.presence.isProxy = true ∧ s.rxp = .storing 0 (goodFrame 1518) ∧ 64 ≤ (goodFrame 1518).received
         ∧ (goodFrame 1518).received ≤ s.settings.maxFrameBytes) := by decide +kernel

theorem witness_FirstMatchingFilterDecides :
    (∀ r ∈ ready.filters, patternMatches r.pattern ready.pool[(0 : Fin 10)].bytes = false)
    ∧ (∀ a ∈ [FilterAction.wake, .wakeAnswer, .block],
      let s : State := { storing ready (goodFrame 64) (List.replicate 64 0) with
        filters := [filterOf .block [termAt12], filterOf a [anyTerm], filterOf .wake [anyTerm]] }
      s.filters = [filterOf .block [termAt12]] ++ filterOf a [anyTerm] :: [filterOf .wake [anyTerm]]
        ∧ patternMatches (filterOf a [anyTerm]).pattern s.pool[(0 : Fin 10)].bytes = true
        ∧ patternMatches (filterOf .block [termAt12]).pattern s.pool[(0 : Fin 10)].bytes = false
        ∧ (filterOf a [anyTerm]).action = a) := by decide +kernel

theorem witness_FirstMatchingEntryAnswers :
    (∀ i : Fin 32, ready.answers[i] = none)
    ∧ (∀ c ∈ [AnswerClass.essential, .routine, .courtesy],
      (answering c).answers[(31 : Fin 32)] = some (entryOf c [anyTerm])
        ∧ patternMatches (entryOf c [anyTerm]).pattern (List.replicate 64 0) = true
        ∧ (∀ j : Fin 32, j < 31 → (answering c).answers[j] = none)
        ∧ (answering c).templates[(entryOf c [anyTerm]).template] = some leastTemplate
        ∧ (entryOf c [anyTerm]).quietUntil = none ∧ (answering c).shed.level = 0
        ∧ (answering c).txq.queue.length < 8 ∧ (answering c).pool[(0 : Fin 10)].owner = .free)
    ∧ (1 ≤ ((100000 : Time) - 0).toNat ∧ ((100000 : Time) - 0).toNat ≤ (entryOf .routine []).pacing.toNat * 1000
      ∧ ¬((100001 : Time) - 0).toNat ≤ (entryOf .routine []).pacing.toNat * 1000)
    ∧ (let s : State := { answering .routine with txq := ⟨List.replicate 8 ⟨3, 60⟩, .idle⟩ }
       8 ≤ s.txq.queue.length)
    ∧ (let s : State := { answering .routine with pool := Vector.replicate 10 ⟨.captured, []⟩ }
       ∀ b : Fin 10, s.pool[b].owner ≠ .free)
    ∧ (let s : State := { answering .essential with shed := { ready.shed with level := 3 } }
       s.shed.level = 3 ∧ 2 ≤ s.shed.level.val ∧ 1 ≤ s.shed.level.val) := by decide +kernel

theorem witness_ReplyBuildAppliesOperations :
    (∀ o ∈ [(⟨.frame, 60, 0, 16⟩ : CopyOp), ⟨.station, 0, 8, 6⟩],
      ((⟨List.replicate 16 0, leastTemplate.edits⟩ : Template).build (List.replicate 64 1) (List.replicate 6 2)).length
          = (List.replicate 16 (0 : Byte)).length
        ∧ o.dstOffset.toNat + o.width ≤ 16)
    ∧ (List.replicate 6 (2 : Byte)).length = 6 := by decide +kernel

theorem witness_TransmissionStartEndAndGap :
    (let s := twoReplies (linkUp (inPresence .proxy))
     s.txq.transmitter = .idle ∧ s.lmon.link = .up .r100 ∧ s.lineSelPart = true
       ∧ s.txq.queue = ⟨3, 60⟩ :: [⟨4, 60⟩])
    ∧ (let s := transmitting (twoReplies (linkUp (inPresence .proxy)))
       s.txq.transmitter = .sending [0x55, 0xD5] 6000 ∧ s.lmon.link = .up .r100 ∧ s.prc.presence ≠ .leaving)
    ∧ (let s := transmitting (executingWith (twoReplies (linkUp (inPresence .leaving))) reclaimRequest)
       s.prc.presence = .leaving ∧ s.link.requests = [reclaimRequest] ∧ s.txq.queue = ⟨3, 60⟩ :: [⟨4, 60⟩])
    ∧ (let s : State := { atTime ready 1 with txq := ⟨[], .gap 1000⟩ }
       s.txq.transmitter = .gap 1000 ∧ 1000 ≤ s.clock) := by decide +kernel

theorem witness_TimedRowsWaitForTheirTime :
    (entering.prc.handoverDeadline = some 10000000 ∧ (atTime entering 9999).clock < 10000000)
    ∧ (ready.prc.wakeAckTimer = none ∧ ready.prc.pulseEnd = none ∧ ready.txq.queue = [] ∧ ready.phyTxen = false
      ∧ ready.desc.state ≠ .summing ∧ ready.desc.state ≠ .clearing ∧ ready.desc.state ≠ .verifying
      ∧ ready.desc.holdDownEnd ≠ some ready.time ∧ ready.desc.transaction = none
      ∧ ready.lmon.quarantineEnd ≠ some ready.time ∧ ready.lmon.intervalEnd ≠ ready.time
      ∧ ∀ n : Fin 4, ready.alarms[n].state ≠ .running 0)
    ∧ ((twoReplies (linkUp ready)).lineSelPart = false
      ∧ (transmitting (twoReplies (linkUp (inPresence .proxy)))).txq.transmitter ≠ .idle)
    ∧ (let s : State := { ready with txq := ⟨[], .gap 1000⟩ }
       s.txq.transmitter = .gap 1000 ∧ s.clock < 1000)
    ∧ (let x := transaction .descriptor true 1 false
       (reader x).desc.transaction = some x ∧ (24999 : Time).since x.start < x.stallMs * 1000)
    ∧ ((atTime ready 999999).time.since ready.shed.windowStart < ready.shed.windowMs * 1000)
    ∧ (let s : State := { atTime ready 15999 with
        link := { ready.link with assembler := .length 0 16000000 } }
       s.link.assembler = .length 0 16000000 ∧ s.clock < 0 + 16000000) := by decide +kernel

/-- A state with something of everything: PROXY and UP, a frame in reception, two replies, a capture, a transaction. -/
def busy : State :=
  { ready with
    prc := { ready.prc with presence := .proxy }
    rxp := .storing 0 (goodFrame 64)
    pool := (((ready.pool.set 0 ⟨.receiving, List.replicate 64 0⟩).set 3 ⟨.queued, List.replicate 60 1⟩).set 4
      ⟨.queued, List.replicate 60 2⟩).set 5 ⟨.captured, List.replicate 256 3⟩
    filters := [filterOf .wake [termAt12]]
    answers := ready.answers.set 31 (some (entryOf .routine [anyTerm]))
    templates := ready.templates.set 2 (some leastTemplate)
    txq := ⟨[⟨3, 60⟩, ⟨4, 60⟩], .sending [0x55, 0xD5] 6000⟩
    wlog := ⟨[captureRecord 1, bareRecord 2], #v[none, some 5], some 3⟩
    desc := { ready.desc with
      state := .published, published := 8, store := [(0, 1), (1023, 2)]
      transaction := some (transaction .descriptor true 1 false), deferred := .descOpen }
    lmon := { ready.lmon with
      link := .up .r100, latest := some ⟨400000, 0⟩, reference := some 400000, lastRecenter := some 0 }
    link := { ready.link with requests := [⟨0x11, 9, []⟩], executing := true }
    events := { ready.events with flags := 0x8000, notices := ready.events.notices.set 15 (some 0) }
    pending := [.framingError] }

theorem busy_steps : step busy = .next { busy with pending := [] } := rfl

theorem witness_StepKeepsTables : step busy = .next { busy with pending := [] } ∧ StoreCanonical busy
    ∧ WithinCapacity busy ∧ EntriesNameTemplates busy ∧ SequencesRise busy := by
  have answers : ∀ i : Fin 32, (busy.answers[i]).all fun e => (busy.templates[e.template]).isSome := by decide +kernel
  refine ⟨rfl, by unfold StoreCanonical; decide +kernel, by unfold WithinCapacity; decide +kernel, ?_, ?_, ?_⟩
  · intro i e at_i
    simpa [at_i] using answers i
  · decide +kernel
  · intro q next r among
    obtain rfl : q = 3 := (Option.some.inj next).symm
    exact (by decide +kernel : ∀ r ∈ busy.wlog.records, r.seq.toNat < (3 : Word).toNat) r among

theorem default_settings_in_range : ∀ id ∈ List.range 21, ∀ range ∈ settingRange id, ∀ v ∈ Settings.default.number id,
    range.1 ≤ v ∧ v ≤ range.2 := by decide +kernel

theorem witness_StepKeepsHostItems : step busy = .next { busy with pending := [] } ∧ SettingsInRange busy
    ∧ NoticesOfSetFlags busy ∧ LinkAgrees busy ∧ ExecutingHasRequest busy ∧ BytesFit busy ∧ DescAgrees busy := by
  refine ⟨rfl, ⟨?_, by decide +kernel⟩, by unfold NoticesOfSetFlags; decide +kernel, .inl ⟨.r100, rfl⟩, ?_,
    ⟨?_, by decide +kernel⟩, by unfold DescAgrees; decide +kernel⟩
  · intro id lo hi v range value
    by_cases small : id < 21
    · exact default_settings_in_range id (List.mem_range.2 small) (lo, hi) range v value
    · unfold settingRange at range
      split at range <;> first | omega | simp at range
  · exact fun _ => by decide +kernel
  · intro id t defined
    have fits : ∀ id : Fin 16, (busy.templates[id]).all fun t => 14 ≤ t.body.length && t.body.length ≤ 128
        && t.edits.length ≤ 8 && t.edits.all fun o => o.dstOffset.toNat + o.width ≤ t.body.length := by decide +kernel
    simpa [Template.Fits, defined, and_assoc] using fits id

theorem witness_StepKeepsPresence : step busy = .next { busy with pending := [] } ∧ PrcAgrees busy
    ∧ TransmitAgrees busy := by
  refine ⟨rfl, by unfold PrcAgrees; decide +kernel, by decide +kernel, by decide +kernel, ?_⟩
  exact fun _ => ⟨by decide +kernel, .r100, rfl⟩

theorem witness_StepKeepsPoolAccounted : step busy = .next { busy with pending := [] } ∧ PoolAccounted busy := by
  have first : busy.wlog.slots[0] = none := rfl
  refine ⟨rfl, by decide +kernel, ?_, fun i => ⟨?_, ?_, ?_⟩⟩
  · intro b slot
    rw [first] at slot
    exact absurd slot (by simp)
  · refine ((by decide +kernel : ∀ i : Fin 10, busy.pool[i].owner = .receiving ↔ (0 : Fin 10) = i) i).trans ⟨?_, ?_⟩
    · exact fun h => ⟨goodFrame 64, h ▸ rfl⟩
    · exact fun ⟨_, h⟩ => (Rxp.storing.inj h).1
  · exact (by decide +kernel : ∀ i : Fin 10, busy.pool[i].owner = .queued ↔ i ∈ busy.txq.queue.map QueuedReply.buf) i
  · exact (by decide +kernel : ∀ i : Fin 10,
      busy.pool[i].owner = .captured ↔ busy.wlog.slots[0] = some i ∨ busy.wlog.slots[1] = some i) i

end Sys2Proof.Tests
end

/-! The counter bank at each reset (R41): what the warm reset's members and the announcements at the end of a
supply-switch reset do to it, and O6. -/

section
namespace Sys2Proof.Machine

/-! ### The counter bank at the warm reset's members -/

/-- Every counter of a cold bank is 0 (R41). -/
@[simp] theorem countersCold_get (p : Fin 23) : countersCold[p] = 0 := by simp [countersCold]

/-- Of the six members COUNTERS alone touches the bank (R41). -/
@[simp] theorem State.resetMember_counters (s : State) (m : ScopeMember) :
    (s.resetMember m).counters = if m = .counters then countersCold else s.counters := by
  cases m <;> simp [State.resetMember]

/-- The bank after the members of a list that the scope names, each at its owner (R189). -/
theorem foldl_resetMember_counters (scope : Byte) (members : List ScopeMember) (s : State) :
    (members.foldl (fun u m => if names scope m then u.resetMember m else u) s).counters
      = if .counters ∈ members ∧ names scope .counters = true then countersCold else s.counters := by
  induction members generalizing s with
  | nil => simp
  | cons m rest ih =>
    rw [List.foldl_cons, ih]
    by_cases bank : m = .counters
    · subst bank
      cases names scope .counters <;> simp
    · have kept : (if names scope m then s.resetMember m else s).counters = s.counters := by
        split <;> simp [bank]
      simp [kept, Ne.symm bank]

/-- A warm reset clears the bank exactly when its scope names COUNTERS (R41). -/
@[simp] theorem State.resetScopes_counters (s : State) (scope : Byte) :
    (s.resetScopes scope).counters = if names scope .counters then countersCold else s.counters := by
  unfold State.resetScopes
  rw [foldl_resetMember_counters]
  simp

/-! ### A RESET row on a link at rest -/

/-- A RESET row is the request frame whose scope carries the row's own bit (R189). -/
theorem exec_resetRow (m : ScopeMember) (tag others : Byte) (s : State) :
    exec (resetRow m tag others) s = .next (s.takeRequest ⟨0x03, tag, [others ||| m.bit]⟩) := by
  cases m <;> rfl

/-- A RESET with no undefined bit, taken in PASSIVE, resets what it names; without DESCRIPTOR it is then answered with
its scope (R189). -/
theorem runReset_passive {s : State} {scope : Byte} (defined : scope &&& 0xC0 = 0)
    (passive : s.prc.presence = .passive) :
    runReset [scope] s = if names scope .descriptor then s.resetScopes scope
      else (s.resetScopes scope).respond .ok [scope] := by
  simp only [runReset, defined, passive, bne_self_eq_false, Bool.false_eq_true, if_false]

/-- On a link at rest in PASSIVE, the bank after a RESET is the one its named scopes leave, whether the RESET is
answered at once or waits for the clearing pass (R41, R179). -/
theorem takeRequest_reset_counters {s : State} {tag scope : Byte} (ready : HostReady s)
    (passive : s.prc.presence = .passive) (defined : scope &&& 0xC0 = 0) :
    (s.takeRequest ⟨0x03, tag, [scope]⟩).counters = if names scope .counters then countersCold else s.counters := by
  have quiet : ((s.awaiting ⟨0x03, tag, [scope]⟩).resetScopes scope).events.firstPending = none := by
    obtain ⟨-, -, -, -, -, noNotice⟩ := ready
    simpa [State.awaiting] using noNotice
  have run := runReset_passive (s := s.awaiting ⟨0x03, tag, [scope]⟩) defined passive
  cases descriptor : names scope .descriptor with
  | false =>
    rw [takeRequest_answers ready (by simpa [runKind, descriptor] using run) (by simp) quiet]
    simp [State.answered, State.awaiting]
  | true =>
    rw [takeRequest_awaits ready (by simpa [runKind, descriptor] using run) (by simp) quiet]
    simp [State.awaiting]

/-! ### The counter bank at a supply-switch reset -/

@[simp] theorem State.announce_counters (s : State) (e : ResetEndEvent) : (s.announce e).counters = s.counters := by
  cases e <;> simp [State.announce]

@[simp] theorem State.announceAll_counters (n : Nat) (s : State) (events : List ResetEndEvent) :
    (s.announceAll n events).counters = s.counters :=
  State.announceAll_preserves (P := fun u => u.counters = s.counters) (fun _ _ kept => by simpa using kept)
    (fun _ _ kept => kept) n s events rfl

/-- Neither the work a reset cuts short nor what is announced at its end is counted (R41). -/
@[simp] theorem State.supplySwitchReset_counters (s : State) (us : Nat) (fast : Bool) :
    (s.supplySwitchReset us fast).counters = s.counters := by
  simp [State.supplySwitchReset, State.settleBlocks]

/-! ### O6 -/

/-- Settles O6: a cold reset starts from the cold bank, a supply-switch reset keeps the bank, and a warm reset clears it
exactly when its scope names COUNTERS. -/
theorem counterBankAtEachReset : Obligations.CounterBankAtEachReset := by
  refine ⟨fun s fast => ⟨s.coldReset fast, rfl, countersCold_get⟩,
    fun s us fast => ⟨s.supplySwitchReset us fast, rfl, s.supplySwitchReset_counters us fast⟩, ?_⟩
  intro s m tag others ready passive defined
  refine ⟨_, exec_resetRow m tag others s, ?_⟩
  rw [takeRequest_reset_counters ready passive defined]
  split
  · exact countersCold_get
  · rfl

end Sys2Proof.Machine
end

/-! The filter list (R45): at each reset (R57), and at FILTER_REMOVE and FILTER_GET (R48, R49); O7 and O27. -/

section
namespace Sys2Proof.Machine

/-! ### The filter list at the warm reset's members -/

/-- Of the six members TABLES alone touches the filter list (R57). -/
@[simp] theorem State.resetMember_filters (s : State) (m : ScopeMember) :
    (s.resetMember m).filters = if m = .tables then s.filters.filter (·.isProtected) else s.filters := by
  cases m <;> simp [State.resetMember, State.resetTablesScope, filtersAfterTablesReset]

/-- A member acts on the filter list where the scope names it and it is TABLES (R57, R189). -/
theorem State.resetNamed_filters (s : State) (scope : Byte) (m : ScopeMember) :
    (if names scope m then s.resetMember m else s).filters
      = if names scope m = true ∧ m = .tables then s.filters.filter (·.isProtected) else s.filters := by
  cases names scope m <;> simp

/-- A warm reset keeps just the protected records, in order, where its scope names TABLES, else every record (R57). -/
@[simp] theorem State.resetScopes_filters (s : State) (scope : Byte) :
    (s.resetScopes scope).filters
      = if names scope .tables then s.filters.filter (·.isProtected) else s.filters := by
  simp [State.resetScopes, State.resetNamed_filters]

/-- On a link at rest in PASSIVE, a RESET with no undefined bit leaves what its scopes leave: with DESCRIPTOR it waits
for the clearing pass, else it is answered OK with its scope (R179, R189). -/
theorem takeRequest_reset {s : State} {tag scope : Byte} (ready : HostReady s)
    (passive : s.prc.presence = .passive) (defined : scope &&& 0xC0 = 0) :
    s.takeRequest ⟨0x03, tag, [scope]⟩ =
      if names scope .descriptor then (s.awaiting ⟨0x03, tag, [scope]⟩).resetScopes scope
      else { (s.awaiting ⟨0x03, tag, [scope]⟩).resetScopes scope with link := s.link }.answered 0x83 tag [0, scope] := by
  have run : runKind 0x03 [scope] (s.awaiting ⟨0x03, tag, [scope]⟩) = _ := runReset_passive defined passive
  have quiet : ((s.awaiting ⟨0x03, tag, [scope]⟩).resetScopes scope).events.firstPending = none := by
    obtain ⟨-, -, -, -, -, noNotice⟩ := ready
    simpa [State.awaiting] using noNotice
  cases descriptor : names scope .descriptor with
  | false =>
    rw [descriptor] at run
    exact takeRequest_answers (m := ⟨0x03, tag, [scope]⟩) (st := .ok) ready run (by simp) quiet
  | true =>
    rw [descriptor] at run
    exact takeRequest_awaits ready run (by simp) quiet

/-- On a link at rest in PASSIVE, the filter list after a RESET is the one its named scopes leave, whether the RESET is
answered at once or waits for the clearing pass (R57, R179). -/
theorem takeRequest_reset_filters {s : State} {tag scope : Byte} (ready : HostReady s)
    (passive : s.prc.presence = .passive) (defined : scope &&& 0xC0 = 0) :
    (s.takeRequest ⟨0x03, tag, [scope]⟩).filters
      = if names scope .tables then s.filters.filter (·.isProtected) else s.filters := by
  rw [takeRequest_reset ready passive defined]
  cases names scope .descriptor <;> simp [State.answered, State.awaiting]

/-! ### The filter list at a supply-switch reset -/

@[simp] theorem State.announce_filters (s : State) (e : ResetEndEvent) : (s.announce e).filters = s.filters := by
  cases e <;> simp [State.announce]

@[simp] theorem State.announceAll_filters (n : Nat) (s : State) (events : List ResetEndEvent) :
    (s.announceAll n events).filters = s.filters :=
  State.announceAll_preserves (P := fun u => u.filters = s.filters) (fun _ _ kept => by simpa using kept)
    (fun _ _ kept => kept) n s events rfl

/-- Neither settling the blocks nor what is announced at the reset's end touches the filter list (R57). -/
@[simp] theorem State.supplySwitchReset_filters (s : State) (us : Nat) (fast : Bool) :
    (s.supplySwitchReset us fast).filters = s.filters := by
  simp [State.supplySwitchReset, State.settleBlocks]

/-! ### O7 -/

/-- Settles O7: a cold reset empties the filter list, a supply-switch reset keeps it, and a warm reset removes the
unprotected records exactly when its scope names TABLES. -/
theorem filterListAtEachReset : Obligations.FilterListAtEachReset := by
  refine ⟨fun s fast => ⟨s.coldReset fast, rfl, rfl⟩,
    fun s us fast => ⟨s.supplySwitchReset us fast, rfl, s.supplySwitchReset_filters us fast⟩, ?_⟩
  intro s m tag others ready passive defined
  exact ⟨_, exec_resetRow m tag others s, takeRequest_reset_filters ready passive defined⟩

/-! ### A request that changes nothing, on a link at rest -/

/-- A request that its owner answers at once with nothing done leaves the state as it was but for its response. -/
theorem takeRequest_answers_unchanged {s : State} {m : Message} {st : Status} {fields : List Byte}
    (ready : HostReady s) (run : runKind m.kind m.body (s.awaiting m) = (s.awaiting m).respond st fields) :
    s.takeRequest m = s.answered (responseKind m.kind) m.tag (st.code :: fields) := by
  have quiet : (s.awaiting m).events.firstPending = none := by
    obtain ⟨-, -, -, -, -, noNotice⟩ := ready
    exact noNotice
  exact takeRequest_answers (u := s.awaiting m) ready run rfl quiet

/-! ### What FILTER_REMOVE and FILTER_GET do at a position -/

/-- FILTER_REMOVE of a record: the list closes up over its position, and the response reports it (R48). -/
theorem runFilterRemove_of_getElem? {s : State} {p : Byte} {r : FilterRecord} (found : s.filters[p.toNat]? = some r) :
    runFilterRemove [p] s =
      { s with filters := s.filters.take p.toNat ++ s.filters.drop (p.toNat + 1) }.respond .ok
        ([BitVec.ofNat 8 (s.filters.length - 1)] ++ bytesBE 2 r.label.toNat ++ [r.action.code] ++ bytesBE 2 r.hits) := by
  obtain ⟨inside, -⟩ := List.getElem?_eq_some_iff.mp found
  simp only [runFilterRemove, found, State.filterCount]
  rw [List.length_eraseIdx_of_lt inside, List.eraseIdx_eq_take_drop_succ]

/-- FILTER_GET of a record reports it with its position and hit count (R49). -/
theorem runFilterGet_of_getElem? {s : State} {p : Byte} {r : FilterRecord} (found : s.filters[p.toNat]? = some r) :
    runFilterGet [p] s =
      s.respond .ok ([BitVec.ofNat 8 s.filters.length, p] ++ r.bytes ++ bytesBE 2 r.hits) := by
  simp only [runFilterGet, found, State.filterCount]

/-- FILTER_REMOVE past the end is NOT_FOUND (R48). -/
theorem runFilterRemove_of_length_le {s : State} {p : Byte} (past : s.filters.length ≤ p.toNat) :
    runFilterRemove [p] s = s.respond .notFound [BitVec.ofNat 8 s.filters.length] := by
  simp only [runFilterRemove, List.getElem?_eq_none past, State.filterCount]

/-- FILTER_GET past the end is NOT_FOUND (R49). -/
theorem runFilterGet_of_length_le {s : State} {p : Byte} (past : s.filters.length ≤ p.toNat) :
    runFilterGet [p] s = s.respond .notFound [BitVec.ofNat 8 s.filters.length] := by
  simp only [runFilterGet, List.getElem?_eq_none past, State.filterCount]

/-! ### The same as commands, on a link at rest -/

theorem exec_filterRemove_of_getElem? {s : State} {p : Byte} {r : FilterRecord} (tag : Byte) (ready : HostReady s)
    (found : s.filters[p.toNat]? = some r) :
    exec (.filterRemove tag [p]) s = .next
      ({ s with filters := s.filters.take p.toNat ++ s.filters.drop (p.toNat + 1) }.answered 0x8F tag
        ([0, BitVec.ofNat 8 (s.filters.length - 1)] ++ bytesBE 2 r.label.toNat ++ [r.action.code]
          ++ bytesBE 2 r.hits)) := by
  have quiet : s.events.firstPending = none := by
    obtain ⟨-, -, -, -, -, noNotice⟩ := ready
    exact noNotice
  exact congrArg _ (takeRequest_answers (m := ⟨0x0F, tag, [p]⟩) ready
    (runFilterRemove_of_getElem? (s := s.awaiting ⟨0x0F, tag, [p]⟩) found) rfl quiet)

theorem exec_filterGet_of_getElem? {s : State} {p : Byte} {r : FilterRecord} (tag : Byte) (ready : HostReady s)
    (found : s.filters[p.toNat]? = some r) :
    exec (.filterGet tag [p]) s = .next (s.answered 0x90 tag
      ([0, BitVec.ofNat 8 s.filters.length, p] ++ r.bytes ++ bytesBE 2 r.hits)) :=
  congrArg _ (takeRequest_answers_unchanged (m := ⟨0x10, tag, [p]⟩) ready
    (runFilterGet_of_getElem? (s := s.awaiting ⟨0x10, tag, [p]⟩) found))

theorem exec_filterRemove_of_length_le {s : State} {p : Byte} (tag : Byte) (ready : HostReady s)
    (past : s.filters.length ≤ p.toNat) :
    exec (.filterRemove tag [p]) s = .next (s.answered 0x8F tag [5, BitVec.ofNat 8 s.filters.length]) :=
  congrArg _ (takeRequest_answers_unchanged (m := ⟨0x0F, tag, [p]⟩) ready
    (runFilterRemove_of_length_le (s := s.awaiting ⟨0x0F, tag, [p]⟩) past))

theorem exec_filterGet_of_length_le {s : State} {p : Byte} (tag : Byte) (ready : HostReady s)
    (past : s.filters.length ≤ p.toNat) :
    exec (.filterGet tag [p]) s = .next (s.answered 0x90 tag [5, BitVec.ofNat 8 s.filters.length]) :=
  congrArg _ (takeRequest_answers_unchanged (m := ⟨0x10, tag, [p]⟩) ready
    (runFilterGet_of_length_le (s := s.awaiting ⟨0x10, tag, [p]⟩) past))

/-! ### O27 -/

/-- Settles O27: a position either holds a record, which FILTER_REMOVE takes out and FILTER_GET reports, or lies past
the end, where both are NOT_FOUND. -/
theorem filterRemoveAndGet : Obligations.FilterRemoveAndGet := by
  intro s tag p ready
  constructor
  · intro r found
    exact ⟨exec_filterRemove_of_getElem? tag ready found, exec_filterGet_of_getElem? tag ready found⟩
  · intro past
    exact ⟨exec_filterRemove_of_length_le tag ready past, exec_filterGet_of_length_le tag ready past⟩

end Sys2Proof.Machine
end

/-! Which copy operations are well formed (R69): the ranges of each source's fields, and O29. -/

section
namespace Sys2Proof.Machine

/-- A FRAME operation takes any source offset and 1..16 bytes (R69). -/
theorem copyOpOf_frame_isSome_iff (n : Nat) (so d l : Byte) :
    (copyOpOf n ⟨0, so, d, l⟩).isSome = true ↔
      (1 ≤ l.toNat ∧ l.toNat ≤ 16) ∧ d.toNat ≤ 127 ∧ d.toNat + l.toNat ≤ n := by
  have source : CopySource.ofCode 0 = some .frame := rfl
  simp only [copyOpOf, source]
  simp [and_assoc]

/-- A STATION operation takes source offset 0 and length 6 alone (R69). -/
theorem copyOpOf_station_isSome_iff (n : Nat) (so d l : Byte) :
    (copyOpOf n ⟨1, so, d, l⟩).isSome = true ↔
      (so = 0 ∧ l = 6) ∧ d.toNat ≤ 127 ∧ d.toNat + l.toNat ≤ n := by
  have source : CopySource.ofCode 1 = some .station := rfl
  simp only [copyOpOf, source]
  simp [and_assoc]

/-- With any other source code an operation is not well formed (R69). -/
theorem copyOpOf_eq_none_of_source (n : Nat) {src : Byte} (so d l : Byte) (notFrame : src ≠ 0) (notStation : src ≠ 1) :
    copyOpOf n ⟨src, so, d, l⟩ = none := by
  have source : CopySource.ofCode src = none := by simp only [CopySource.ofCode, if_neg notFrame, if_neg notStation]
  simp only [copyOpOf, source]

/-- Settles O29, by the source code: FRAME, STATION, or neither. -/
theorem copyOperationWellFormed : Obligations.CopyOperationWellFormed := by
  intro n src so d l
  by_cases frame : src = 0
  · subst frame
    rw [copyOpOf_frame_isSome_iff]
    simp
  · by_cases station : src = 1
    · subst station
      rw [copyOpOf_station_isSome_iff]
      simp
    · rw [copyOpOf_eq_none_of_source n so d l frame station]
      simp only [Option.isSome_none, Bool.false_eq_true, frame, station, false_and, or_self]

end Sys2Proof.Machine
end

/-! The wake log after a cold reset (R104): what the cold values hold, the record that a cause adds where the log has
room and a sequence number (R97), and O5. -/

section
namespace Sys2Proof.Machine

/-- Both capture slots of a cold wake log are free (R104). -/
@[simp] theorem Wlog.cold_slots_get (k : Fin 2) : Wlog.cold.slots[k] = none := by simp [Wlog.cold]

/-- Every buffer of a cold pool is FREE (R36). -/
@[simp] theorem poolCold_get_owner (i : Fin 10) : poolCold[i].owner = .free := by simp [poolCold]

/-- A cause taken in a proxy state with room in the log and a sequence number left is recorded under that number and
reported to PRC (R96, R97). -/
theorem State.takeCause_of_room {s : State} {o : Offer} {q : Word} (allowed : s.causeAllowed o = true)
    (proxy : s.prc.presence.isProxy = true) (next : s.wlog.nextSeq = some q)
    (room : s.wlog.records.length < Config.logCapacity) : s.takeCause o = (s.addRecord q o).reportWake := by
  simp only [State.takeCause, allowed, proxy, next, room, Bool.and_self, if_true]

/-- With its capture or without, a cause adds one record at the tail, with the sequence number it is given (R97, R98). -/
theorem State.addRecord_records (s : State) (q : Word) (o : Offer) :
    ∃ r, (s.addRecord q o).wlog.records = s.wlog.records ++ [r] ∧ r.seq = q := by
  unfold State.addRecord
  split
  case h_1 => exact ⟨_, rfl, rfl⟩
  case h_2 => exact ⟨_, rfl, rfl⟩

/-- The first record of a cold wake log has sequence number 1 (R97, R104). -/
theorem State.takeCause_records_of_cold {s : State} {o : Offer} (cold : s.wlog = Wlog.cold)
    (proxy : s.prc.presence.isProxy = true) (allowed : s.causeAllowed o = true) :
    ∃ r, (s.takeCause o).wlog.records = [r] ∧ r.seq = 1 := by
  have empty : s.wlog.records = [] := by rw [cold]; rfl
  have next : s.wlog.nextSeq = some 1 := by rw [cold]; rfl
  have room : s.wlog.records.length < Config.logCapacity := by rw [empty]; decide
  obtain ⟨r, added, seq⟩ := s.addRecord_records 1 o
  refine ⟨r, ?_, seq⟩
  calc (s.takeCause o).wlog.records
      = (s.addRecord 1 o).wlog.records := by rw [State.takeCause_of_room allowed proxy next room]; simp
    _ = [r] := by rw [added, empty, List.nil_append]

/-- Settles O5: a cold reset puts the cold log and the cold pool, and from a log like it the first cause recorded gets
sequence number 1. -/
theorem coldResetEmptiesWakeLog : Obligations.ColdResetEmptiesWakeLog := by
  intro s fast
  refine ⟨s.coldReset fast, rfl, rfl, Wlog.cold_slots_get, rfl, poolCold_get_owner, ?_⟩
  intro u o cold proxy allowed
  exact State.takeCause_records_of_cold cold proxy allowed

end Sys2Proof.Machine
end

/-! DESC_READ and DESC_PUBLISH (R115, R116): what each does with its body, by the descriptor state, and O33 and O34. -/

section
namespace Sys2Proof.Machine

/-! ### The bytes and the range of a read -/

/-- Reading a run gives the byte of each of its positions, in order. -/
theorem Memory.readRun_eq_map (m : List Host.Cell) (a n : Nat) :
    Memory.readRun m a n = (List.range n).map fun k => Memory.read m (a + k) := by
  induction n generalizing a with
  | zero => rfl
  | succ n ih =>
    rw [Memory.readRun, ih, List.range_succ_eq_map, List.map_cons, List.map_map]
    simp [Function.comp_def, Nat.add_assoc, Nat.add_comm 1]

/-- A range passes the test when it holds 1..64 bytes and ends inside the store; its offset is then inside too (R114,
R115). -/
theorem descRange_iff (offset count : Nat) :
    descRange offset count = true ↔ 1 ≤ count ∧ count ≤ 64 ∧ offset + count ≤ 1024 := by
  have size : Config.storeSize = 1024 := rfl
  simp only [descRange, Bool.and_eq_true, decide_eq_true_eq]
  omega

/-- A range fails the test when it is empty, longer than 64 bytes, or ends past the store (R114, R115). -/
theorem descRange_eq_false_iff (offset count : Nat) :
    descRange offset count = false ↔ count = 0 ∨ 64 < count ∨ 1024 < offset + count := by
  rw [← Bool.not_eq_true, descRange_iff]
  omega

/-! ### What DESC_READ does -/

/-- In a pass DESC_READ is BUSY (R115). -/
theorem runDescRead_of_inPass {s : State} (o1 o0 n : Byte) (pass : s.desc.state.inPass = true) :
    runDescRead [o1, o0, n] s = s.respond .busy [] := by
  simp only [runDescRead, pass, if_true]

/-- Outside the passes a range that fails the test is BAD_ARGUMENT (R115). -/
theorem runDescRead_of_range_false {s : State} {o1 o0 n : Byte} (noPass : s.desc.state.inPass = false)
    (outside : descRange (ofBytesBE [o1, o0]) n.toNat = false) :
    runDescRead [o1, o0, n] s = s.respond .badArgument [] := by
  simp only [runDescRead, noPass, outside, Bool.false_eq_true, if_false]

/-- Outside the passes a range that passes the test is reported as stored (R115). -/
theorem runDescRead_of_range {s : State} {o1 o0 n : Byte} (noPass : s.desc.state.inPass = false)
    (inside : descRange (ofBytesBE [o1, o0]) n.toNat = true) :
    runDescRead [o1, o0, n] s = s.respond .ok ([o1, o0, n]
      ++ (List.range n.toNat).map fun k => Memory.read s.desc.store (ofBytesBE [o1, o0] + k)) := by
  simp only [runDescRead, noPass, inside, Bool.false_eq_true, if_false, if_true, Memory.readRun_eq_map]

/-- DESC_READ as a command on a link at rest: what its run answers at once is all that it does (R178). -/
theorem exec_descRead_of_respond {s : State} {tag o1 o0 n : Byte} {st : Status} {fields : List Byte}
    (ready : HostReady s)
    (run : runDescRead [o1, o0, n] (s.awaiting ⟨0x13, tag, [o1, o0, n]⟩)
      = (s.awaiting ⟨0x13, tag, [o1, o0, n]⟩).respond st fields) :
    exec (.descRead tag [o1, o0, n]) s = .next (s.answered 0x93 tag (st.code :: fields)) :=
  congrArg _ (takeRequest_answers_unchanged (m := ⟨0x13, tag, [o1, o0, n]⟩) ready run)

/-- Settles O33, by the descriptor state and then the range test. -/
theorem descReadReportsStore : Obligations.DescReadReportsStore := by
  intro s tag o1 o0 n ready offset
  refine ⟨fun pass => ?busy, fun noPass outside => ?badArgument, fun noPass nonempty short fits => ?stored⟩
  case busy => exact exec_descRead_of_respond ready (runDescRead_of_inPass o1 o0 n pass)
  case badArgument =>
    exact exec_descRead_of_respond ready
      (runDescRead_of_range_false noPass ((descRange_eq_false_iff offset n.toNat).mpr outside))
  case stored =>
    exact exec_descRead_of_respond ready
      (runDescRead_of_range noPass ((descRange_iff offset n.toNat).mpr ⟨nonempty, short, fits⟩))

/-! ### What DESC_PUBLISH does -/

/-- Outside EDITING, DESC_PUBLISH is WRONG_STATE (R116). -/
theorem runDescPublish_of_not_editing {s : State} (n : Byte) (other : s.desc.state ≠ .editing) :
    runDescPublish [n] s = s.respond .wrongState [] := by
  simp only [runDescPublish, bne_iff_ne.mpr other, if_true]

/-- In EDITING a count that is not 1..8 is BAD_ARGUMENT (R116). -/
theorem runDescPublish_of_bad_count {s : State} {n : Byte} (editing : s.desc.state = .editing)
    (bad : n.toNat = 0 ∨ 8 < n.toNat) : runDescPublish [n] s = s.respond .badArgument [] := by
  have refused : ¬(1 ≤ n.toNat ∧ n.toNat ≤ 8) := by omega
  simp only [runDescPublish, editing, bne_self_eq_false, Bool.false_eq_true, Bool.and_eq_true, decide_eq_true_eq,
    refused, if_false]

/-- In EDITING a count of 1..8 begins the checksum pass, which ends within 2 ms (R116, R117). -/
theorem runDescPublish_begins {s : State} {n : Byte} (editing : s.desc.state = .editing) (low : 1 ≤ n.toNat)
    (high : n.toNat ≤ 8) :
    runDescPublish [n] s = { s with desc := { s.desc with
      state := .summing, passCount := n.toNat, passLatest := some (s.clock + 2000000) } } := by
  have latest : s.inMs 2 = s.clock + 2000000 := rfl
  simp only [runDescPublish, editing, bne_self_eq_false, Bool.false_eq_true, low, high, decide_true, Bool.and_self,
    if_false, if_true, latest]

/-- DESC_PUBLISH as a command on a link at rest, where its run refuses it: the response is all that it does (R116). -/
theorem exec_descPublish_of_respond {s : State} {tag n : Byte} {st : Status} {fields : List Byte}
    (ready : HostReady s)
    (run : runDescPublish [n] (s.awaiting ⟨0x14, tag, [n]⟩) = (s.awaiting ⟨0x14, tag, [n]⟩).respond st fields) :
    exec (.descPublish tag [n]) s = .next (s.answered 0x94 tag (st.code :: fields)) :=
  congrArg _ (takeRequest_answers_unchanged (m := ⟨0x14, tag, [n]⟩) ready run)

/-- DESC_PUBLISH as a command on a link at rest, where it begins the pass: its response waits (R116, R179). -/
theorem exec_descPublish_begins {s : State} {n : Byte} (tag : Byte) (ready : HostReady s)
    (editing : s.desc.state = .editing) (low : 1 ≤ n.toNat) (high : n.toNat ≤ 8) :
    exec (.descPublish tag [n]) s = .next ({ s with desc := { s.desc with
      state := .summing, passCount := n.toNat, passLatest := some (s.clock + 2000000) } }.awaiting
        ⟨0x14, tag, [n]⟩) := by
  have quiet : s.events.firstPending = none := by
    obtain ⟨-, -, -, -, -, noNotice⟩ := ready
    exact noNotice
  have run := runDescPublish_begins (s := s.awaiting ⟨0x14, tag, [n]⟩) editing low high
  exact congrArg _ (takeRequest_awaits (m := ⟨0x14, tag, [n]⟩) ready run rfl quiet)

/-- Settles O34, by the descriptor state and then the count. -/
theorem descPublishBeginsPass : Obligations.DescPublishBeginsPass := by
  intro s tag n ready
  refine ⟨fun other => ?wrongState, fun editing bad => ?badArgument, fun editing low high => ?begins⟩
  case wrongState => exact exec_descPublish_of_respond ready (runDescPublish_of_not_editing n other)
  case badArgument => exact exec_descPublish_of_respond ready (runDescPublish_of_bad_count editing bad)
  case begins => exact exec_descPublish_begins tag ready editing low high

end Sys2Proof.Machine
end

/-! What each event of the part's blocks leaves as it was, one lemma per event, in the manner of Laws/Ops. -/

section
namespace Sys2Proof.Machine

@[simp] theorem State.frameSent_keeps (s : State) :
    s.frameSent.pins = s.pins ∧ s.frameSent.otp = s.otp ∧ s.frameSent.time = s.time ∧ s.frameSent.clock = s.clock ∧
      s.frameSent.prc = s.prc ∧ s.frameSent.rxp = s.rxp ∧ s.frameSent.pool = s.pool ∧
      s.frameSent.filters = s.filters ∧ s.frameSent.answers = s.answers ∧ s.frameSent.templates = s.templates ∧
      s.frameSent.txq = s.txq ∧ s.frameSent.wlog = s.wlog ∧ s.frameSent.desc = s.desc ∧ s.frameSent.lmon = s.lmon ∧
      s.frameSent.shed = s.shed ∧ s.frameSent.alarms = s.alarms ∧ s.frameSent.events = s.events ∧
      s.frameSent.settings = s.settings ∧ s.frameSent.factory = s.factory ∧ s.frameSent.counters = s.counters ∧
      s.frameSent.free = s.free ∧ s.frameSent.pending = s.pending := by
  unfold State.frameSent
  split <;> simp

@[simp] theorem State.hostTxFalls_keeps (s : State) :
    s.hostTxFalls.otp = s.otp ∧ s.hostTxFalls.time = s.time ∧ s.hostTxFalls.clock = s.clock ∧
      s.hostTxFalls.filters = s.filters ∧ s.hostTxFalls.answers = s.answers ∧
      s.hostTxFalls.templates = s.templates ∧ s.hostTxFalls.wlog = s.wlog ∧ s.hostTxFalls.desc = s.desc ∧
      s.hostTxFalls.lmon = s.lmon ∧ s.hostTxFalls.shed = s.shed ∧ s.hostTxFalls.alarms = s.alarms ∧
      s.hostTxFalls.events = s.events ∧ s.hostTxFalls.settings = s.settings ∧ s.hostTxFalls.factory = s.factory ∧
      s.hostTxFalls.free = s.free ∧ s.hostTxFalls.pending = s.pending := by
  simp [State.hostTxFalls]

@[simp] theorem State.hostTxRises_keeps (s : State) :
    s.hostTxRises.otp = s.otp ∧ s.hostTxRises.time = s.time ∧ s.hostTxRises.clock = s.clock ∧
      s.hostTxRises.prc = s.prc ∧ s.hostTxRises.rxp = s.rxp ∧ s.hostTxRises.pool = s.pool ∧
      s.hostTxRises.filters = s.filters ∧ s.hostTxRises.answers = s.answers ∧
      s.hostTxRises.templates = s.templates ∧ s.hostTxRises.txq = s.txq ∧ s.hostTxRises.wlog = s.wlog ∧
      s.hostTxRises.desc = s.desc ∧ s.hostTxRises.lmon = s.lmon ∧ s.hostTxRises.shed = s.shed ∧
      s.hostTxRises.alarms = s.alarms ∧ s.hostTxRises.link = s.link ∧ s.hostTxRises.events = s.events ∧
      s.hostTxRises.settings = s.settings ∧ s.hostTxRises.factory = s.factory ∧
      s.hostTxRises.counters = s.counters ∧ s.hostTxRises.free = s.free ∧ s.hostTxRises.pending = s.pending := by
  simp [State.hostTxRises]

@[simp] theorem State.handoverDeadlineExpires_keeps (s : State) :
    s.handoverDeadlineExpires.pins = s.pins ∧ s.handoverDeadlineExpires.otp = s.otp ∧
      s.handoverDeadlineExpires.time = s.time ∧ s.handoverDeadlineExpires.clock = s.clock ∧
      s.handoverDeadlineExpires.filters = s.filters ∧ s.handoverDeadlineExpires.answers = s.answers ∧
      s.handoverDeadlineExpires.templates = s.templates ∧ s.handoverDeadlineExpires.wlog = s.wlog ∧
      s.handoverDeadlineExpires.desc = s.desc ∧ s.handoverDeadlineExpires.lmon = s.lmon ∧
      s.handoverDeadlineExpires.shed = s.shed ∧ s.handoverDeadlineExpires.alarms = s.alarms ∧
      s.handoverDeadlineExpires.events = s.events ∧ s.handoverDeadlineExpires.settings = s.settings ∧
      s.handoverDeadlineExpires.factory = s.factory ∧ s.handoverDeadlineExpires.free = s.free ∧
      s.handoverDeadlineExpires.pending = s.pending := by
  unfold State.handoverDeadlineExpires
  split <;> simp

@[simp] theorem State.wakeAckTimerExpires_keeps (s : State) :
    s.wakeAckTimerExpires.pins = s.pins ∧ s.wakeAckTimerExpires.otp = s.otp ∧ s.wakeAckTimerExpires.time = s.time ∧
      s.wakeAckTimerExpires.clock = s.clock ∧ s.wakeAckTimerExpires.rxp = s.rxp ∧
      s.wakeAckTimerExpires.pool = s.pool ∧ s.wakeAckTimerExpires.filters = s.filters ∧
      s.wakeAckTimerExpires.answers = s.answers ∧ s.wakeAckTimerExpires.templates = s.templates ∧
      s.wakeAckTimerExpires.txq = s.txq ∧ s.wakeAckTimerExpires.wlog = s.wlog ∧
      s.wakeAckTimerExpires.desc = s.desc ∧ s.wakeAckTimerExpires.lmon = s.lmon ∧
      s.wakeAckTimerExpires.shed = s.shed ∧ s.wakeAckTimerExpires.alarms = s.alarms ∧
      s.wakeAckTimerExpires.link = s.link ∧ s.wakeAckTimerExpires.settings = s.settings ∧
      s.wakeAckTimerExpires.factory = s.factory ∧ s.wakeAckTimerExpires.counters = s.counters ∧
      s.wakeAckTimerExpires.free = s.free ∧ s.wakeAckTimerExpires.pending = s.pending := by
  unfold State.wakeAckTimerExpires
  split
  · split <;> simp
  · simp

@[simp] theorem State.pulseEnds_keeps (s : State) :
    s.pulseEnds.pins = s.pins ∧ s.pulseEnds.otp = s.otp ∧ s.pulseEnds.time = s.time ∧ s.pulseEnds.clock = s.clock ∧
      s.pulseEnds.rxp = s.rxp ∧ s.pulseEnds.pool = s.pool ∧ s.pulseEnds.filters = s.filters ∧
      s.pulseEnds.answers = s.answers ∧ s.pulseEnds.templates = s.templates ∧ s.pulseEnds.txq = s.txq ∧
      s.pulseEnds.wlog = s.wlog ∧ s.pulseEnds.desc = s.desc ∧ s.pulseEnds.lmon = s.lmon ∧
      s.pulseEnds.shed = s.shed ∧ s.pulseEnds.alarms = s.alarms ∧ s.pulseEnds.link = s.link ∧
      s.pulseEnds.events = s.events ∧ s.pulseEnds.settings = s.settings ∧ s.pulseEnds.factory = s.factory ∧
      s.pulseEnds.counters = s.counters ∧ s.pulseEnds.free = s.free ∧ s.pulseEnds.pending = s.pending := by
  unfold State.pulseEnds
  split <;> simp

@[simp] theorem State.startFrame_keeps (s : State) (b : Byte) :
    (s.startFrame b).pins = s.pins ∧ (s.startFrame b).otp = s.otp ∧ (s.startFrame b).time = s.time ∧
      (s.startFrame b).clock = s.clock ∧ (s.startFrame b).prc = s.prc ∧ (s.startFrame b).filters = s.filters ∧
      (s.startFrame b).answers = s.answers ∧ (s.startFrame b).templates = s.templates ∧
      (s.startFrame b).txq = s.txq ∧ (s.startFrame b).wlog = s.wlog ∧ (s.startFrame b).desc = s.desc ∧
      (s.startFrame b).shed = s.shed ∧ (s.startFrame b).alarms = s.alarms ∧ (s.startFrame b).link = s.link ∧
      (s.startFrame b).settings = s.settings ∧ (s.startFrame b).factory = s.factory ∧
      (s.startFrame b).counters = s.counters ∧ (s.startFrame b).free = s.free ∧
      (s.startFrame b).pending = s.pending := by
  obtain same | ⟨-, f, started⟩ | ⟨-, i, f, -, started⟩ | ⟨-, f, started⟩ := s.startFrame_cases b
  · simp [same]
  · simp [started]
  · simp [started]
  · simp [started]

@[simp] theorem State.rxError_keeps (s : State) :
    s.rxError.pins = s.pins ∧ s.rxError.otp = s.otp ∧ s.rxError.time = s.time ∧ s.rxError.clock = s.clock ∧
      s.rxError.prc = s.prc ∧ s.rxError.pool = s.pool ∧ s.rxError.filters = s.filters ∧
      s.rxError.answers = s.answers ∧ s.rxError.templates = s.templates ∧ s.rxError.txq = s.txq ∧
      s.rxError.wlog = s.wlog ∧ s.rxError.desc = s.desc ∧ s.rxError.lmon = s.lmon ∧ s.rxError.shed = s.shed ∧
      s.rxError.alarms = s.alarms ∧ s.rxError.link = s.link ∧ s.rxError.events = s.events ∧
      s.rxError.settings = s.settings ∧ s.rxError.factory = s.factory ∧ s.rxError.counters = s.counters ∧
      s.rxError.free = s.free ∧ s.rxError.pending = s.pending := by
  unfold State.rxError
  split <;> simp

@[simp] theorem State.endFrame_keeps (s : State) (partialByte : Bool) :
    (s.endFrame partialByte).pins = s.pins ∧ (s.endFrame partialByte).otp = s.otp ∧
      (s.endFrame partialByte).time = s.time ∧ (s.endFrame partialByte).clock = s.clock ∧
      (s.endFrame partialByte).templates = s.templates ∧ (s.endFrame partialByte).desc = s.desc ∧
      (s.endFrame partialByte).lmon = s.lmon ∧ (s.endFrame partialByte).alarms = s.alarms ∧
      (s.endFrame partialByte).settings = s.settings ∧ (s.endFrame partialByte).factory = s.factory ∧
      (s.endFrame partialByte).free = s.free ∧ (s.endFrame partialByte).pending = s.pending := by
  unfold State.endFrame
  split <;> simp

@[simp] theorem State.startsTransmission_keeps (s : State) :
    s.startsTransmission.pins = s.pins ∧ s.startsTransmission.otp = s.otp ∧ s.startsTransmission.time = s.time ∧
      s.startsTransmission.clock = s.clock ∧ s.startsTransmission.prc = s.prc ∧ s.startsTransmission.rxp = s.rxp ∧
      s.startsTransmission.pool = s.pool ∧ s.startsTransmission.filters = s.filters ∧
      s.startsTransmission.answers = s.answers ∧ s.startsTransmission.templates = s.templates ∧
      s.startsTransmission.wlog = s.wlog ∧ s.startsTransmission.desc = s.desc ∧
      s.startsTransmission.lmon = s.lmon ∧ s.startsTransmission.shed = s.shed ∧
      s.startsTransmission.alarms = s.alarms ∧ s.startsTransmission.link = s.link ∧
      s.startsTransmission.events = s.events ∧ s.startsTransmission.settings = s.settings ∧
      s.startsTransmission.factory = s.factory ∧ s.startsTransmission.counters = s.counters ∧
      s.startsTransmission.free = s.free ∧ s.startsTransmission.pending = s.pending := by
  unfold State.startsTransmission
  split
  · split <;> simp
  · simp

@[simp] theorem State.finishHead_keeps (s : State) :
    s.finishHead.pins = s.pins ∧ s.finishHead.otp = s.otp ∧ s.finishHead.time = s.time ∧
      s.finishHead.clock = s.clock ∧ s.finishHead.prc = s.prc ∧ s.finishHead.rxp = s.rxp ∧
      s.finishHead.filters = s.filters ∧ s.finishHead.answers = s.answers ∧ s.finishHead.templates = s.templates ∧
      s.finishHead.wlog = s.wlog ∧ s.finishHead.desc = s.desc ∧ s.finishHead.lmon = s.lmon ∧
      s.finishHead.alarms = s.alarms ∧ s.finishHead.link = s.link ∧ s.finishHead.events = s.events ∧
      s.finishHead.settings = s.settings ∧ s.finishHead.factory = s.factory ∧ s.finishHead.free = s.free ∧
      s.finishHead.pending = s.pending := by
  unfold State.finishHead
  dsimp only
  split <;> simp

@[simp] theorem State.endsTransmission_keeps (s : State) :
    s.endsTransmission.pins = s.pins ∧ s.endsTransmission.otp = s.otp ∧ s.endsTransmission.time = s.time ∧
      s.endsTransmission.clock = s.clock ∧ s.endsTransmission.filters = s.filters ∧
      s.endsTransmission.answers = s.answers ∧ s.endsTransmission.templates = s.templates ∧
      s.endsTransmission.wlog = s.wlog ∧ s.endsTransmission.desc = s.desc ∧ s.endsTransmission.lmon = s.lmon ∧
      s.endsTransmission.alarms = s.alarms ∧ s.endsTransmission.events = s.events ∧
      s.endsTransmission.settings = s.settings ∧ s.endsTransmission.factory = s.factory ∧
      s.endsTransmission.free = s.free ∧ s.endsTransmission.pending = s.pending := by
  unfold State.endsTransmission
  split
  · dsimp only
    split <;> simp
  · simp
  · simp

@[simp] theorem State.endsGap_keeps (s : State) :
    s.endsGap.pins = s.pins ∧ s.endsGap.otp = s.otp ∧ s.endsGap.time = s.time ∧ s.endsGap.clock = s.clock ∧
      s.endsGap.prc = s.prc ∧ s.endsGap.rxp = s.rxp ∧ s.endsGap.pool = s.pool ∧ s.endsGap.filters = s.filters ∧
      s.endsGap.answers = s.answers ∧ s.endsGap.templates = s.templates ∧ s.endsGap.wlog = s.wlog ∧
      s.endsGap.desc = s.desc ∧ s.endsGap.lmon = s.lmon ∧ s.endsGap.shed = s.shed ∧ s.endsGap.alarms = s.alarms ∧
      s.endsGap.link = s.link ∧ s.endsGap.events = s.events ∧ s.endsGap.settings = s.settings ∧
      s.endsGap.factory = s.factory ∧ s.endsGap.counters = s.counters ∧ s.endsGap.free = s.free ∧
      s.endsGap.pending = s.pending := by
  unfold State.endsGap
  split <;> simp

@[simp] theorem State.checksumPassEnds_keeps (s : State) :
    s.checksumPassEnds.pins = s.pins ∧ s.checksumPassEnds.otp = s.otp ∧ s.checksumPassEnds.time = s.time ∧
      s.checksumPassEnds.clock = s.clock ∧ s.checksumPassEnds.prc = s.prc ∧ s.checksumPassEnds.rxp = s.rxp ∧
      s.checksumPassEnds.pool = s.pool ∧ s.checksumPassEnds.filters = s.filters ∧
      s.checksumPassEnds.answers = s.answers ∧ s.checksumPassEnds.templates = s.templates ∧
      s.checksumPassEnds.txq = s.txq ∧ s.checksumPassEnds.wlog = s.wlog ∧ s.checksumPassEnds.lmon = s.lmon ∧
      s.checksumPassEnds.shed = s.shed ∧ s.checksumPassEnds.alarms = s.alarms ∧
      s.checksumPassEnds.events = s.events ∧ s.checksumPassEnds.settings = s.settings ∧
      s.checksumPassEnds.factory = s.factory ∧ s.checksumPassEnds.counters = s.counters ∧
      s.checksumPassEnds.free = s.free ∧ s.checksumPassEnds.pending = s.pending := by
  unfold State.checksumPassEnds
  split <;> simp

@[simp] theorem State.holdDownEnds_keeps (s : State) :
    s.holdDownEnds.pins = s.pins ∧ s.holdDownEnds.otp = s.otp ∧ s.holdDownEnds.time = s.time ∧
      s.holdDownEnds.clock = s.clock ∧ s.holdDownEnds.prc = s.prc ∧ s.holdDownEnds.rxp = s.rxp ∧
      s.holdDownEnds.pool = s.pool ∧ s.holdDownEnds.filters = s.filters ∧ s.holdDownEnds.answers = s.answers ∧
      s.holdDownEnds.templates = s.templates ∧ s.holdDownEnds.txq = s.txq ∧ s.holdDownEnds.wlog = s.wlog ∧
      s.holdDownEnds.lmon = s.lmon ∧ s.holdDownEnds.shed = s.shed ∧ s.holdDownEnds.alarms = s.alarms ∧
      s.holdDownEnds.link = s.link ∧ s.holdDownEnds.events = s.events ∧ s.holdDownEnds.settings = s.settings ∧
      s.holdDownEnds.factory = s.factory ∧ s.holdDownEnds.counters = s.counters ∧ s.holdDownEnds.free = s.free ∧
      s.holdDownEnds.pending = s.pending := by
  unfold State.holdDownEnds
  split <;> simp

@[simp] theorem State.clearingPassEnds_keeps (s : State) :
    s.clearingPassEnds.pins = s.pins ∧ s.clearingPassEnds.otp = s.otp ∧ s.clearingPassEnds.time = s.time ∧
      s.clearingPassEnds.clock = s.clock ∧ s.clearingPassEnds.prc = s.prc ∧ s.clearingPassEnds.rxp = s.rxp ∧
      s.clearingPassEnds.pool = s.pool ∧ s.clearingPassEnds.filters = s.filters ∧
      s.clearingPassEnds.answers = s.answers ∧ s.clearingPassEnds.templates = s.templates ∧
      s.clearingPassEnds.txq = s.txq ∧ s.clearingPassEnds.wlog = s.wlog ∧ s.clearingPassEnds.lmon = s.lmon ∧
      s.clearingPassEnds.shed = s.shed ∧ s.clearingPassEnds.alarms = s.alarms ∧
      s.clearingPassEnds.events = s.events ∧ s.clearingPassEnds.settings = s.settings ∧
      s.clearingPassEnds.factory = s.factory ∧ s.clearingPassEnds.counters = s.counters ∧
      s.clearingPassEnds.free = s.free ∧ s.clearingPassEnds.pending = s.pending := by
  unfold State.clearingPassEnds
  dsimp only
  (repeat' split) <;> simp

@[simp] theorem State.verifyPassEnds_keeps (s : State) :
    s.verifyPassEnds.pins = s.pins ∧ s.verifyPassEnds.otp = s.otp ∧ s.verifyPassEnds.time = s.time ∧
      s.verifyPassEnds.clock = s.clock ∧ s.verifyPassEnds.rxp = s.rxp ∧ s.verifyPassEnds.filters = s.filters ∧
      s.verifyPassEnds.answers = s.answers ∧ s.verifyPassEnds.templates = s.templates ∧
      s.verifyPassEnds.txq = s.txq ∧ s.verifyPassEnds.lmon = s.lmon ∧ s.verifyPassEnds.shed = s.shed ∧
      s.verifyPassEnds.alarms = s.alarms ∧ s.verifyPassEnds.link = s.link ∧
      s.verifyPassEnds.settings = s.settings ∧ s.verifyPassEnds.factory = s.factory ∧
      s.verifyPassEnds.counters = s.counters ∧ s.verifyPassEnds.free = s.free ∧
      s.verifyPassEnds.pending = s.pending := by
  unfold State.verifyPassEnds
  dsimp only
  (repeat' split) <;> simp

@[simp] theorem State.busStarts_keeps (s : State) :
    s.busStarts.pins = s.pins ∧ s.busStarts.otp = s.otp ∧ s.busStarts.time = s.time ∧ s.busStarts.clock = s.clock ∧
      s.busStarts.prc = s.prc ∧ s.busStarts.rxp = s.rxp ∧ s.busStarts.pool = s.pool ∧
      s.busStarts.filters = s.filters ∧ s.busStarts.answers = s.answers ∧ s.busStarts.templates = s.templates ∧
      s.busStarts.txq = s.txq ∧ s.busStarts.wlog = s.wlog ∧ s.busStarts.lmon = s.lmon ∧ s.busStarts.shed = s.shed ∧
      s.busStarts.alarms = s.alarms ∧ s.busStarts.link = s.link ∧ s.busStarts.events = s.events ∧
      s.busStarts.settings = s.settings ∧ s.busStarts.factory = s.factory ∧ s.busStarts.counters = s.counters ∧
      s.busStarts.free = s.free ∧ s.busStarts.pending = s.pending := by
  unfold State.busStarts
  split <;> simp

@[simp] theorem State.takeAddress_keeps (s : State) (b : Byte) :
    (s.takeAddress b).pins = s.pins ∧ (s.takeAddress b).otp = s.otp ∧ (s.takeAddress b).time = s.time ∧
      (s.takeAddress b).clock = s.clock ∧ (s.takeAddress b).prc = s.prc ∧ (s.takeAddress b).rxp = s.rxp ∧
      (s.takeAddress b).pool = s.pool ∧ (s.takeAddress b).filters = s.filters ∧
      (s.takeAddress b).answers = s.answers ∧ (s.takeAddress b).templates = s.templates ∧
      (s.takeAddress b).txq = s.txq ∧ (s.takeAddress b).wlog = s.wlog ∧ (s.takeAddress b).lmon = s.lmon ∧
      (s.takeAddress b).shed = s.shed ∧ (s.takeAddress b).alarms = s.alarms ∧ (s.takeAddress b).link = s.link ∧
      (s.takeAddress b).events = s.events ∧ (s.takeAddress b).settings = s.settings ∧
      (s.takeAddress b).factory = s.factory ∧ (s.takeAddress b).free = s.free ∧
      (s.takeAddress b).pending = s.pending := by
  unfold State.takeAddress
  dsimp only
  (repeat' split) <;> simp

@[simp] theorem State.writePage_keeps (s : State) (b : Byte) :
    (s.writePage b).pins = s.pins ∧ (s.writePage b).otp = s.otp ∧ (s.writePage b).time = s.time ∧
      (s.writePage b).clock = s.clock ∧ (s.writePage b).prc = s.prc ∧ (s.writePage b).rxp = s.rxp ∧
      (s.writePage b).pool = s.pool ∧ (s.writePage b).filters = s.filters ∧ (s.writePage b).answers = s.answers ∧
      (s.writePage b).templates = s.templates ∧ (s.writePage b).txq = s.txq ∧ (s.writePage b).wlog = s.wlog ∧
      (s.writePage b).lmon = s.lmon ∧ (s.writePage b).shed = s.shed ∧ (s.writePage b).alarms = s.alarms ∧
      (s.writePage b).link = s.link ∧ (s.writePage b).events = s.events ∧ (s.writePage b).settings = s.settings ∧
      (s.writePage b).factory = s.factory ∧ (s.writePage b).counters = s.counters ∧ (s.writePage b).free = s.free ∧
      (s.writePage b).pending = s.pending := by
  unfold State.writePage
  split
  · simp
  · dsimp only
    split <;> simp

@[simp] theorem State.readPage_keeps (s : State) (ack : Bool) :
    (s.readPage ack).pins = s.pins ∧ (s.readPage ack).otp = s.otp ∧ (s.readPage ack).time = s.time ∧
      (s.readPage ack).clock = s.clock ∧ (s.readPage ack).prc = s.prc ∧ (s.readPage ack).rxp = s.rxp ∧
      (s.readPage ack).pool = s.pool ∧ (s.readPage ack).filters = s.filters ∧
      (s.readPage ack).answers = s.answers ∧ (s.readPage ack).templates = s.templates ∧
      (s.readPage ack).txq = s.txq ∧ (s.readPage ack).wlog = s.wlog ∧ (s.readPage ack).lmon = s.lmon ∧
      (s.readPage ack).shed = s.shed ∧ (s.readPage ack).alarms = s.alarms ∧ (s.readPage ack).link = s.link ∧
      (s.readPage ack).events = s.events ∧ (s.readPage ack).settings = s.settings ∧
      (s.readPage ack).factory = s.factory ∧ (s.readPage ack).counters = s.counters ∧
      (s.readPage ack).free = s.free ∧ (s.readPage ack).pending = s.pending := by
  unfold State.readPage
  split
  · simp
  · split <;> simp

@[simp] theorem State.writeOffset_keeps (s : State) (b : Byte) :
    (s.writeOffset b).pins = s.pins ∧ (s.writeOffset b).otp = s.otp ∧ (s.writeOffset b).time = s.time ∧
      (s.writeOffset b).clock = s.clock ∧ (s.writeOffset b).prc = s.prc ∧ (s.writeOffset b).rxp = s.rxp ∧
      (s.writeOffset b).pool = s.pool ∧ (s.writeOffset b).filters = s.filters ∧
      (s.writeOffset b).answers = s.answers ∧ (s.writeOffset b).templates = s.templates ∧
      (s.writeOffset b).txq = s.txq ∧ (s.writeOffset b).wlog = s.wlog ∧ (s.writeOffset b).lmon = s.lmon ∧
      (s.writeOffset b).shed = s.shed ∧ (s.writeOffset b).alarms = s.alarms ∧ (s.writeOffset b).link = s.link ∧
      (s.writeOffset b).events = s.events ∧ (s.writeOffset b).settings = s.settings ∧
      (s.writeOffset b).factory = s.factory ∧ (s.writeOffset b).counters = s.counters ∧
      (s.writeOffset b).free = s.free ∧ (s.writeOffset b).pending = s.pending := by
  unfold State.writeOffset
  split
  · simp
  · dsimp only
    split <;> simp

@[simp] theorem State.readDescriptor_keeps (s : State) (ack : Bool) :
    (s.readDescriptor ack).pins = s.pins ∧ (s.readDescriptor ack).otp = s.otp ∧
      (s.readDescriptor ack).time = s.time ∧ (s.readDescriptor ack).clock = s.clock ∧
      (s.readDescriptor ack).prc = s.prc ∧ (s.readDescriptor ack).rxp = s.rxp ∧
      (s.readDescriptor ack).pool = s.pool ∧ (s.readDescriptor ack).filters = s.filters ∧
      (s.readDescriptor ack).answers = s.answers ∧ (s.readDescriptor ack).templates = s.templates ∧
      (s.readDescriptor ack).txq = s.txq ∧ (s.readDescriptor ack).wlog = s.wlog ∧
      (s.readDescriptor ack).lmon = s.lmon ∧ (s.readDescriptor ack).shed = s.shed ∧
      (s.readDescriptor ack).alarms = s.alarms ∧ (s.readDescriptor ack).link = s.link ∧
      (s.readDescriptor ack).events = s.events ∧ (s.readDescriptor ack).settings = s.settings ∧
      (s.readDescriptor ack).factory = s.factory ∧ (s.readDescriptor ack).counters = s.counters ∧
      (s.readDescriptor ack).free = s.free ∧ (s.readDescriptor ack).pending = s.pending := by
  unfold State.readDescriptor
  split
  · simp
  · split <;> simp

@[simp] theorem State.endTransaction_keeps (s : State) :
    s.endTransaction.pins = s.pins ∧ s.endTransaction.otp = s.otp ∧ s.endTransaction.time = s.time ∧
      s.endTransaction.clock = s.clock ∧ s.endTransaction.prc = s.prc ∧ s.endTransaction.rxp = s.rxp ∧
      s.endTransaction.pool = s.pool ∧ s.endTransaction.filters = s.filters ∧
      s.endTransaction.answers = s.answers ∧ s.endTransaction.templates = s.templates ∧
      s.endTransaction.txq = s.txq ∧ s.endTransaction.wlog = s.wlog ∧ s.endTransaction.lmon = s.lmon ∧
      s.endTransaction.shed = s.shed ∧ s.endTransaction.alarms = s.alarms ∧ s.endTransaction.events = s.events ∧
      s.endTransaction.settings = s.settings ∧ s.endTransaction.factory = s.factory ∧
      s.endTransaction.counters = s.counters ∧ s.endTransaction.free = s.free ∧
      s.endTransaction.pending = s.pending := by
  simp [State.endTransaction]

@[simp] theorem State.busStops_keeps (s : State) :
    s.busStops.pins = s.pins ∧ s.busStops.otp = s.otp ∧ s.busStops.time = s.time ∧ s.busStops.clock = s.clock ∧
      s.busStops.prc = s.prc ∧ s.busStops.rxp = s.rxp ∧ s.busStops.pool = s.pool ∧ s.busStops.filters = s.filters ∧
      s.busStops.answers = s.answers ∧ s.busStops.templates = s.templates ∧ s.busStops.txq = s.txq ∧
      s.busStops.wlog = s.wlog ∧ s.busStops.lmon = s.lmon ∧ s.busStops.shed = s.shed ∧
      s.busStops.alarms = s.alarms ∧ s.busStops.events = s.events ∧ s.busStops.settings = s.settings ∧
      s.busStops.factory = s.factory ∧ s.busStops.free = s.free ∧ s.busStops.pending = s.pending := by
  unfold State.busStops
  split
  · simp
  · split <;> simp

@[simp] theorem State.sidebandStalls_keeps (s : State) :
    s.sidebandStalls.pins = s.pins ∧ s.sidebandStalls.otp = s.otp ∧ s.sidebandStalls.time = s.time ∧
      s.sidebandStalls.clock = s.clock ∧ s.sidebandStalls.prc = s.prc ∧ s.sidebandStalls.rxp = s.rxp ∧
      s.sidebandStalls.pool = s.pool ∧ s.sidebandStalls.filters = s.filters ∧
      s.sidebandStalls.answers = s.answers ∧ s.sidebandStalls.templates = s.templates ∧
      s.sidebandStalls.txq = s.txq ∧ s.sidebandStalls.wlog = s.wlog ∧ s.sidebandStalls.lmon = s.lmon ∧
      s.sidebandStalls.shed = s.shed ∧ s.sidebandStalls.alarms = s.alarms ∧ s.sidebandStalls.events = s.events ∧
      s.sidebandStalls.settings = s.settings ∧ s.sidebandStalls.factory = s.factory ∧
      s.sidebandStalls.counters = s.counters ∧ s.sidebandStalls.free = s.free ∧
      s.sidebandStalls.pending = s.pending := by
  unfold State.sidebandStalls
  split <;> simp

@[simp] theorem State.testLinkPair_keeps (s : State) :
    s.testLinkPair.pins = s.pins ∧ s.testLinkPair.otp = s.otp ∧ s.testLinkPair.time = s.time ∧
      s.testLinkPair.clock = s.clock ∧ s.testLinkPair.prc = s.prc ∧ s.testLinkPair.rxp = s.rxp ∧
      s.testLinkPair.pool = s.pool ∧ s.testLinkPair.filters = s.filters ∧ s.testLinkPair.answers = s.answers ∧
      s.testLinkPair.templates = s.templates ∧ s.testLinkPair.txq = s.txq ∧ s.testLinkPair.wlog = s.wlog ∧
      s.testLinkPair.desc = s.desc ∧ s.testLinkPair.shed = s.shed ∧ s.testLinkPair.alarms = s.alarms ∧
      s.testLinkPair.link = s.link ∧ s.testLinkPair.events = s.events ∧ s.testLinkPair.settings = s.settings ∧
      s.testLinkPair.factory = s.factory ∧ s.testLinkPair.counters = s.counters ∧ s.testLinkPair.free = s.free ∧
      s.testLinkPair.pending = s.pending := by
  unfold State.testLinkPair
  (repeat' split) <;> simp

@[simp] theorem State.phyLinkRises_keeps (s : State) :
    s.phyLinkRises.otp = s.otp ∧ s.phyLinkRises.time = s.time ∧ s.phyLinkRises.clock = s.clock ∧
      s.phyLinkRises.prc = s.prc ∧ s.phyLinkRises.rxp = s.rxp ∧ s.phyLinkRises.pool = s.pool ∧
      s.phyLinkRises.filters = s.filters ∧ s.phyLinkRises.answers = s.answers ∧
      s.phyLinkRises.templates = s.templates ∧ s.phyLinkRises.txq = s.txq ∧ s.phyLinkRises.wlog = s.wlog ∧
      s.phyLinkRises.desc = s.desc ∧ s.phyLinkRises.shed = s.shed ∧ s.phyLinkRises.alarms = s.alarms ∧
      s.phyLinkRises.link = s.link ∧ s.phyLinkRises.events = s.events ∧ s.phyLinkRises.settings = s.settings ∧
      s.phyLinkRises.factory = s.factory ∧ s.phyLinkRises.counters = s.counters ∧ s.phyLinkRises.free = s.free ∧
      s.phyLinkRises.pending = s.pending := by
  unfold State.phyLinkRises
  dsimp only
  split <;> simp

@[simp] theorem State.phyLinkFalls_keeps (s : State) :
    s.phyLinkFalls.otp = s.otp ∧ s.phyLinkFalls.time = s.time ∧ s.phyLinkFalls.clock = s.clock ∧
      s.phyLinkFalls.filters = s.filters ∧ s.phyLinkFalls.answers = s.answers ∧
      s.phyLinkFalls.templates = s.templates ∧ s.phyLinkFalls.desc = s.desc ∧ s.phyLinkFalls.shed = s.shed ∧
      s.phyLinkFalls.alarms = s.alarms ∧ s.phyLinkFalls.settings = s.settings ∧
      s.phyLinkFalls.factory = s.factory ∧ s.phyLinkFalls.free = s.free ∧ s.phyLinkFalls.pending = s.pending := by
  unfold State.phyLinkFalls
  dsimp only
  split <;> simp

@[simp] theorem State.testRate_keeps (s : State) (m : Nat) :
    (s.testRate m).pins = s.pins ∧ (s.testRate m).otp = s.otp ∧ (s.testRate m).time = s.time ∧
      (s.testRate m).clock = s.clock ∧ (s.testRate m).prc = s.prc ∧ (s.testRate m).rxp = s.rxp ∧
      (s.testRate m).pool = s.pool ∧ (s.testRate m).filters = s.filters ∧ (s.testRate m).answers = s.answers ∧
      (s.testRate m).templates = s.templates ∧ (s.testRate m).txq = s.txq ∧ (s.testRate m).wlog = s.wlog ∧
      (s.testRate m).desc = s.desc ∧ (s.testRate m).shed = s.shed ∧ (s.testRate m).alarms = s.alarms ∧
      (s.testRate m).link = s.link ∧ (s.testRate m).settings = s.settings ∧ (s.testRate m).factory = s.factory ∧
      (s.testRate m).counters = s.counters ∧ (s.testRate m).free = s.free ∧
      (s.testRate m).pending = s.pending := by
  unfold State.testRate
  split
  · simp
  · split <;> simp

@[simp] theorem State.actOnMeasurement_keeps (s : State) (m : Nat) :
    (s.actOnMeasurement m).pins = s.pins ∧ (s.actOnMeasurement m).otp = s.otp ∧
      (s.actOnMeasurement m).time = s.time ∧ (s.actOnMeasurement m).clock = s.clock ∧
      (s.actOnMeasurement m).filters = s.filters ∧ (s.actOnMeasurement m).answers = s.answers ∧
      (s.actOnMeasurement m).templates = s.templates ∧ (s.actOnMeasurement m).desc = s.desc ∧
      (s.actOnMeasurement m).shed = s.shed ∧ (s.actOnMeasurement m).alarms = s.alarms ∧
      (s.actOnMeasurement m).settings = s.settings ∧ (s.actOnMeasurement m).factory = s.factory ∧
      (s.actOnMeasurement m).free = s.free ∧ (s.actOnMeasurement m).pending = s.pending := by
  unfold State.actOnMeasurement
  (repeat' split) <;> simp

@[simp] theorem State.takeMeasurement_keeps (s : State) (cycles : Nat) :
    (s.takeMeasurement cycles).pins = s.pins ∧ (s.takeMeasurement cycles).otp = s.otp ∧
      (s.takeMeasurement cycles).time = s.time ∧ (s.takeMeasurement cycles).clock = s.clock ∧
      (s.takeMeasurement cycles).filters = s.filters ∧ (s.takeMeasurement cycles).answers = s.answers ∧
      (s.takeMeasurement cycles).templates = s.templates ∧ (s.takeMeasurement cycles).desc = s.desc ∧
      (s.takeMeasurement cycles).shed = s.shed ∧ (s.takeMeasurement cycles).alarms = s.alarms ∧
      (s.takeMeasurement cycles).settings = s.settings ∧ (s.takeMeasurement cycles).factory = s.factory ∧
      (s.takeMeasurement cycles).free = s.free ∧ (s.takeMeasurement cycles).pending = s.pending := by
  unfold State.takeMeasurement
  split <;> simp

@[simp] theorem State.entersUp_keeps (s : State) (c : RateClass) :
    (s.entersUp c).pins = s.pins ∧ (s.entersUp c).otp = s.otp ∧ (s.entersUp c).time = s.time ∧
      (s.entersUp c).clock = s.clock ∧ (s.entersUp c).rxp = s.rxp ∧ (s.entersUp c).filters = s.filters ∧
      (s.entersUp c).answers = s.answers ∧ (s.entersUp c).templates = s.templates ∧ (s.entersUp c).txq = s.txq ∧
      (s.entersUp c).desc = s.desc ∧ (s.entersUp c).shed = s.shed ∧ (s.entersUp c).alarms = s.alarms ∧
      (s.entersUp c).link = s.link ∧ (s.entersUp c).settings = s.settings ∧ (s.entersUp c).factory = s.factory ∧
      (s.entersUp c).counters = s.counters ∧ (s.entersUp c).free = s.free ∧
      (s.entersUp c).pending = s.pending := by
  simp [State.entersUp]

@[simp] theorem State.settles_keeps (s : State) :
    s.settles.pins = s.pins ∧ s.settles.otp = s.otp ∧ s.settles.time = s.time ∧ s.settles.clock = s.clock ∧
      s.settles.rxp = s.rxp ∧ s.settles.filters = s.filters ∧ s.settles.answers = s.answers ∧
      s.settles.templates = s.templates ∧ s.settles.txq = s.txq ∧ s.settles.desc = s.desc ∧
      s.settles.shed = s.shed ∧ s.settles.alarms = s.alarms ∧ s.settles.link = s.link ∧
      s.settles.settings = s.settings ∧ s.settles.factory = s.factory ∧ s.settles.counters = s.counters ∧
      s.settles.free = s.free ∧ s.settles.pending = s.pending := by
  unfold State.settles
  split
  · split <;> simp
  · simp
  · simp

@[simp] theorem State.recentersInUp_keeps (s : State) :
    s.recentersInUp.pins = s.pins ∧ s.recentersInUp.otp = s.otp ∧ s.recentersInUp.time = s.time ∧
      s.recentersInUp.clock = s.clock ∧ s.recentersInUp.filters = s.filters ∧ s.recentersInUp.answers = s.answers ∧
      s.recentersInUp.templates = s.templates ∧ s.recentersInUp.wlog = s.wlog ∧ s.recentersInUp.desc = s.desc ∧
      s.recentersInUp.shed = s.shed ∧ s.recentersInUp.alarms = s.alarms ∧ s.recentersInUp.settings = s.settings ∧
      s.recentersInUp.factory = s.factory ∧ s.recentersInUp.free = s.free ∧
      s.recentersInUp.pending = s.pending := by
  unfold State.recentersInUp
  split
  · simp
  · split <;> simp

@[simp] theorem State.recenters_keeps (s : State) :
    s.recenters.pins = s.pins ∧ s.recenters.otp = s.otp ∧ s.recenters.time = s.time ∧ s.recenters.clock = s.clock ∧
      s.recenters.filters = s.filters ∧ s.recenters.answers = s.answers ∧ s.recenters.templates = s.templates ∧
      s.recenters.wlog = s.wlog ∧ s.recenters.desc = s.desc ∧ s.recenters.shed = s.shed ∧
      s.recenters.alarms = s.alarms ∧ s.recenters.settings = s.settings ∧ s.recenters.factory = s.factory ∧
      s.recenters.free = s.free ∧ s.recenters.pending = s.pending := by
  unfold State.recenters
  dsimp only
  split <;> simp

@[simp] theorem State.quarantineEnds_keeps (s : State) :
    s.quarantineEnds.pins = s.pins ∧ s.quarantineEnds.otp = s.otp ∧ s.quarantineEnds.time = s.time ∧
      s.quarantineEnds.clock = s.clock ∧ s.quarantineEnds.prc = s.prc ∧ s.quarantineEnds.rxp = s.rxp ∧
      s.quarantineEnds.pool = s.pool ∧ s.quarantineEnds.filters = s.filters ∧
      s.quarantineEnds.answers = s.answers ∧ s.quarantineEnds.templates = s.templates ∧
      s.quarantineEnds.txq = s.txq ∧ s.quarantineEnds.wlog = s.wlog ∧ s.quarantineEnds.desc = s.desc ∧
      s.quarantineEnds.shed = s.shed ∧ s.quarantineEnds.alarms = s.alarms ∧ s.quarantineEnds.link = s.link ∧
      s.quarantineEnds.events = s.events ∧ s.quarantineEnds.settings = s.settings ∧
      s.quarantineEnds.factory = s.factory ∧ s.quarantineEnds.counters = s.counters ∧
      s.quarantineEnds.free = s.free ∧ s.quarantineEnds.pending = s.pending := by
  unfold State.quarantineEnds
  split <;> simp

@[simp] theorem State.windowEnds_keeps (s : State) :
    s.windowEnds.pins = s.pins ∧ s.windowEnds.otp = s.otp ∧ s.windowEnds.time = s.time ∧
      s.windowEnds.clock = s.clock ∧ s.windowEnds.prc = s.prc ∧ s.windowEnds.rxp = s.rxp ∧
      s.windowEnds.pool = s.pool ∧ s.windowEnds.filters = s.filters ∧ s.windowEnds.answers = s.answers ∧
      s.windowEnds.templates = s.templates ∧ s.windowEnds.txq = s.txq ∧ s.windowEnds.wlog = s.wlog ∧
      s.windowEnds.desc = s.desc ∧ s.windowEnds.lmon = s.lmon ∧ s.windowEnds.alarms = s.alarms ∧
      s.windowEnds.link = s.link ∧ s.windowEnds.settings = s.settings ∧ s.windowEnds.factory = s.factory ∧
      s.windowEnds.counters = s.counters ∧ s.windowEnds.free = s.free ∧ s.windowEnds.pending = s.pending := by
  unfold State.windowEnds
  split
  · dsimp only
    split <;> simp
  · simp

@[simp] theorem State.alarmExpires_keeps (s : State) (n : Fin 4) :
    (s.alarmExpires n).pins = s.pins ∧ (s.alarmExpires n).otp = s.otp ∧ (s.alarmExpires n).time = s.time ∧
      (s.alarmExpires n).clock = s.clock ∧ (s.alarmExpires n).rxp = s.rxp ∧
      (s.alarmExpires n).filters = s.filters ∧ (s.alarmExpires n).answers = s.answers ∧
      (s.alarmExpires n).templates = s.templates ∧ (s.alarmExpires n).txq = s.txq ∧
      (s.alarmExpires n).desc = s.desc ∧ (s.alarmExpires n).lmon = s.lmon ∧ (s.alarmExpires n).shed = s.shed ∧
      (s.alarmExpires n).link = s.link ∧ (s.alarmExpires n).settings = s.settings ∧
      (s.alarmExpires n).factory = s.factory ∧ (s.alarmExpires n).counters = s.counters ∧
      (s.alarmExpires n).free = s.free ∧ (s.alarmExpires n).pending = s.pending := by
  unfold State.alarmExpires
  split <;> simp

@[simp] theorem State.announce_keeps (s : State) (e : ResetEndEvent) :
    (s.announce e).pins = s.pins ∧ (s.announce e).otp = s.otp ∧ (s.announce e).time = s.time ∧
      (s.announce e).clock = s.clock ∧ (s.announce e).rxp = s.rxp ∧ (s.announce e).answers = s.answers ∧
      (s.announce e).templates = s.templates ∧ (s.announce e).txq = s.txq ∧ (s.announce e).desc = s.desc ∧
      (s.announce e).lmon = s.lmon ∧ (s.announce e).shed = s.shed ∧ (s.announce e).alarms = s.alarms ∧
      (s.announce e).link = s.link ∧ (s.announce e).settings = s.settings ∧ (s.announce e).factory = s.factory ∧
      (s.announce e).free = s.free ∧ (s.announce e).pending = s.pending := by
  cases e <;> simp [State.announce]

end Sys2Proof.Machine
end

/-! The two resets as sums of their parts: what holds at each part of a supply-switch reset or of a warm reset holds at
its end, and what the announcements at the end of a supply-switch reset leave as it was. -/

section
namespace Sys2Proof.Machine

/-- What each member of a scope keeps, a warm reset keeps (R189). -/
theorem State.resetScopes_preserves {P : State → Prop} (member : ∀ s m, P s → P (s.resetMember m)) (s : State)
    (scope : Byte) (h : P s) : P (s.resetScopes scope) := by
  have named : ∀ (members : List ScopeMember) (u : State), P u →
      P (members.foldl (fun u m => if names scope m then u.resetMember m else u) u) := by
    intro members
    induction members with
    | nil => exact fun u hu => hu
    | cons m rest ih =>
      intro u hu
      refine ih _ ?_
      dsimp only
      split
      · exact member u m hu
      · exact hu
  exact named _ s h

/-- What holds when every block is settled, and what each announcement keeps, holds after a supply-switch reset. -/
theorem State.supplySwitchReset_preserves {P : State → Prop} {s : State} {us : Nat} {fast : Bool}
    (announce : ∀ s e, P s → P (s.announce e)) (free : ∀ s n, P s → P { s with free := n })
    (settled : P (((s.elapse us).settleBlocks s.time us fast).sendStarted 1)) : P (s.supplySwitchReset us fast) :=
  State.announceAll_preserves announce free _ _ _ settled

@[simp] theorem State.announceAll_keeps (n : Nat) (s : State) (events : List ResetEndEvent) :
    (s.announceAll n events).pins = s.pins ∧ (s.announceAll n events).otp = s.otp ∧
      (s.announceAll n events).time = s.time ∧ (s.announceAll n events).clock = s.clock ∧
      (s.announceAll n events).rxp = s.rxp ∧ (s.announceAll n events).answers = s.answers ∧
      (s.announceAll n events).templates = s.templates ∧ (s.announceAll n events).txq = s.txq ∧
      (s.announceAll n events).desc = s.desc ∧ (s.announceAll n events).lmon = s.lmon ∧
      (s.announceAll n events).shed = s.shed ∧ (s.announceAll n events).alarms = s.alarms ∧
      (s.announceAll n events).link = s.link ∧ (s.announceAll n events).settings = s.settings ∧
      (s.announceAll n events).factory = s.factory ∧ (s.announceAll n events).pending = s.pending :=
  State.announceAll_preserves
    (P := fun u => u.pins = s.pins ∧ u.otp = s.otp ∧ u.time = s.time ∧ u.clock = s.clock ∧ u.rxp = s.rxp ∧
      u.answers = s.answers ∧ u.templates = s.templates ∧ u.txq = s.txq ∧ u.desc = s.desc ∧ u.lmon = s.lmon ∧
      u.shed = s.shed ∧ u.alarms = s.alarms ∧ u.link = s.link ∧ u.settings = s.settings ∧ u.factory = s.factory ∧
      u.pending = s.pending)
    (fun _ _ kept => by simpa using kept) (fun _ _ kept => kept) n s events (by simp)

/-- No announcement carries a frame: the pool and the capture slots stay as they were (R98). -/
@[simp] theorem State.announce_pool_slots (s : State) (e : ResetEndEvent) :
    (s.announce e).pool = s.pool ∧ (s.announce e).wlog.slots = s.wlog.slots := by
  cases e with
  | supplySwitch => exact s.takeCause_without_frame _ rfl
  | expiry n => exact (s.raise (.alarm n)).takeCause_without_frame _ rfl

@[simp] theorem State.announceAll_pool_slots (n : Nat) (s : State) (events : List ResetEndEvent) :
    (s.announceAll n events).pool = s.pool ∧ (s.announceAll n events).wlog.slots = s.wlog.slots :=
  State.announceAll_preserves (P := fun u => u.pool = s.pool ∧ u.wlog.slots = s.wlog.slots)
    (fun _ _ kept => by simpa using kept) (fun _ _ kept => kept) n s events ⟨rfl, rfl⟩

/-- The retention domain, and what else a supply-switch reset does not touch (R21, R57, R79, R188). -/
@[simp] theorem State.supplySwitchReset_keeps (s : State) (us : Nat) (fast : Bool) :
    (s.supplySwitchReset us fast).pins = s.pins ∧ (s.supplySwitchReset us fast).otp = s.otp ∧
      (s.supplySwitchReset us fast).answers = s.answers ∧ (s.supplySwitchReset us fast).templates = s.templates ∧
      (s.supplySwitchReset us fast).settings = s.settings ∧ (s.supplySwitchReset us fast).factory = s.factory ∧
      (s.supplySwitchReset us fast).pending = s.pending := by
  simp [State.supplySwitchReset, State.settleBlocks]

/-- The blocks that the announcements leave alone stand after a supply-switch reset as they were settled. -/
theorem State.supplySwitchReset_settles (s : State) (us : Nat) (fast : Bool) :
    (s.supplySwitchReset us fast).time = s.time + BitVec.ofNat 48 us ∧
      (s.supplySwitchReset us fast).clock = s.clock + us * 1000 ∧
      (s.supplySwitchReset us fast).rxp = .idle ∧ (s.supplySwitchReset us fast).pool = poolCold ∧
      (s.supplySwitchReset us fast).txq = Txq.cold ∧
      (s.supplySwitchReset us fast).wlog.slots = Vector.replicate 2 none ∧
      (s.supplySwitchReset us fast).desc = (s.elapse us).descAfterSupplySwitch s.time ∧
      (s.supplySwitchReset us fast).lmon = s.lmon.afterSupplySwitch (s.time + BitVec.ofNat 48 us) ∧
      (s.supplySwitchReset us fast).shed = (s.elapse us).freshWindow (s.time + BitVec.ofNat 48 us) 0 ∧
      (s.supplySwitchReset us fast).alarms = s.alarms.map (fun a => a.acrossReset s.time us) ∧
      (s.supplySwitchReset us fast).link =
        (((s.elapse us).settleBlocks s.time us fast).sendStarted 1).link := by
  simp [State.supplySwitchReset, State.settleBlocks, Wlog.afterSupplySwitch, State.elapse, Config.nsPerUs]

end Sys2Proof.Machine
end

/-! The walk and the end of a frame as sums of their parts: what each part keeps, the whole keeps. And the transmit queue
and the transmitter after each shared operation. -/

section
namespace Sys2Proof.Machine

/-! ### The walk -/

/-- The property is kept by every part of the answer walk (R61 to R67). -/
structure KeptByAnswers (P : State → Prop) : Prop where
  count : ∀ s c, P s → P (s.count c)
  report : ∀ s k, P s → P (s.report k)
  raise : ∀ s f, P s → P (s.raise f)
  hitAnswer : ∀ (s : State) (i : Fin 32) e, s.answers[i] = some e → P s → P (s.hitAnswer i e)
  queueReply : ∀ (s : State) (i : Fin 32) e t (b : Fin 10) frame, s.answers[i] = some e →
    s.templates[e.template] = some t → s.txq.queue.length < Config.queueCapacity → s.pool[b].owner = .free →
    P s → P ((s.setBuffer b ⟨.queued, []⟩).queueReply i e t b frame)

/-- The buffer a claim grants was FREE (R32). -/
theorem State.firstFree_owner {s : State} {i : Fin 10} (first : s.firstFree = some i) : s.pool[i].owner = .free := by
  unfold State.firstFree at first
  simpa using List.find?_some first

theorem KeptByAnswers.admission {P : State → Prop} (K : KeptByAnswers P) {s : State} {i : Fin 32} {e : AnswerEntry}
    (frame : List Byte) (entry : s.answers[i] = some e) (h : P s) : P (s.admission i e frame) := by
  unfold State.admission
  split
  · exact K.count _ _ h
  · split
    · exact K.count _ _ h
    · split
      · exact K.raise _ _ (K.count _ _ h)
      · rename_i room
        unfold State.claimAndQueue
        split
        · exact h
        · rename_i t template
          cases first : s.firstFree with
          | none =>
            simp only [State.claim, first]
            exact K.count _ _ (K.raise _ _ h)
          | some b =>
            simp only [State.claim, first]
            exact K.queueReply s i e t b frame entry template (Nat.lt_of_not_le room)
              (State.firstFree_owner first) h

theorem KeptByAnswers.answerWalk {P : State → Prop} (K : KeptByAnswers P) (s : State) (frame : List Byte)
    (decided : Bool) (h : P s) : P (s.answerWalk frame decided) := by
  unfold State.answerWalk
  split
  · split
    · exact h
    · exact K.count _ _ h
  · split
    · exact h
    · rename_i i _ _ e entry
      refine K.admission frame ?_ (K.report _ _ (K.count _ _ (K.hitAnswer s i e entry h)))
      simp [State.report, State.count, State.hitAnswer]

/-- The filter walk of a frame in buffer `b`: `P` holds until the cause is taken, `Q` from then on (R51 to R54). -/
theorem State.walkFrame_preserves {P Q : State → Prop} {b : Fin 10} (K : KeptByAnswers Q)
    (count : ∀ s c, P s → P (s.count c)) (report : ∀ s k, P s → P (s.report k))
    (hitFilter : ∀ s i, P s → P (s.hitFilter i)) (later : ∀ s, P s → Q s)
    (cause : ∀ s (r : FilterRecord) n, P s → Q (s.takeCause (r.offer b n))) (s : State) (n : Nat) (frame : List Byte)
    (h : P s) : Q (s.walkFrame b n frame) := by
  unfold State.walkFrame
  split
  · exact K.answerWalk _ _ _ (later _ h)
  · split
    · exact later _ h
    · rename_i i _ _ r _
      have hit := report _ 1 (hitFilter s i h)
      unfold State.decideByFilter
      split
      · exact later _ (count _ _ hit)
      · exact cause _ _ _ (count _ _ hit)
      · exact K.answerWalk _ _ _ (cause _ _ _ (count _ _ hit))

/-- A property that the parts of a walk keep, the walk keeps (R51 to R55). -/
theorem State.walk_preserves {P : State → Prop} {b : Fin 10} (K : KeptByAnswers P)
    (hitFilter : ∀ s i, P s → P (s.hitFilter i))
    (cause : ∀ s (r : FilterRecord) n, P s → P (s.takeCause (r.offer b n)))
    (freeBuffer : ∀ s, P s → P (s.freeBuffer b)) (s : State) (n : Nat) (h : P s) : P (s.walk b n) := by
  have walked : P (s.walkFrame b n s.pool[b].bytes) :=
    State.walkFrame_preserves K K.count K.report hitFilter (fun _ h => h) cause s n _ h
  unfold State.walk State.disposeReceived
  split
  · exact freeBuffer _ walked
  · exact walked

/-- A property that does not rest on RXP and that the parts of the end of a frame keep, the end keeps (R26, R27). -/
theorem State.endFrame_preserves {P : State → Prop} (idle : ∀ s : State, P s → P { s with rxp := .idle })
    (count : ∀ s c, P s → P (s.count c)) (report : ∀ s k, P s → P (s.report k))
    (walk : ∀ (s : State) b n, s.prc.presence.isProxy = true → P s → P (s.walk b n))
    (freeBuffer : ∀ s b, P s → P (s.freeBuffer b)) (testWait : ∀ s, P s → P s.testWait) (s : State)
    (partialByte : Bool) (h : P s) : P (s.endFrame partialByte) := by
  have countFrame : ∀ (u : State) c, P u → P (u.countFrame c) := by
    intro u c hu
    unfold State.countFrame
    dsimp only
    split
    · exact report _ _ (count _ _ hu)
    · exact count _ _ hu
  unfold State.endFrame
  split
  · exact h
  · exact idle _ h
  · refine testWait _ ?_
    unfold State.endStored
    dsimp only
    split
    · rename_i walked
      exact walk _ _ _ (by simpa using walked.2) (countFrame _ _ (idle _ h))
    · exact freeBuffer _ _ (countFrame _ _ (idle _ h))
  · exact testWait _ (countFrame _ _ (idle _ h))
  · exact testWait _ (countFrame _ _ (idle _ h))

/-! ### A measurement -/

/-- A property that does not rest on LMON, that the raise keeps and that the link keeps as it leaves UP, a measurement
keeps (R133 to R138, R142). -/
theorem State.takeMeasurement_preserves {P : State → Prop} (setLmon : ∀ (s : State) l, P s → P { s with lmon := l })
    (raise : ∀ s f, P s → P (s.raise f)) (leaveUp : ∀ s dest, P s → P (s.leaveUp dest)) (s : State) (cycles : Nat)
    (h : P s) : P (s.takeMeasurement cycles) := by
  have acts : ∀ (u : State) m, P u → P (u.actOnMeasurement m) := by
    intro u m hu
    unfold State.actOnMeasurement
    split
    · unfold State.testLinkPair
      split
      · exact hu
      · split
        · exact hu
        · split
          · exact setLmon _ _ hu
          · exact hu
    · split
      · exact setLmon _ _ hu
      · split
        · exact hu
        · exact setLmon _ _ hu
    · split
      · exact leaveUp _ _ hu
      · split
        · unfold State.testRate
          split
          · exact hu
          · split
            · exact raise _ _ (setLmon _ _ hu)
            · exact hu
        · exact leaveUp _ _ hu
  unfold State.takeMeasurement
  split
  · exact acts _ _ (setLmon _ _ h)
  · exact h

/-! ### A recenter -/

/-- A property that rests on nothing of LMON but the link state and that the parts of a recenter keep, the recenter
keeps (R29, R143, R144). -/
theorem State.recenters_preserves {P : State → Prop}
    (setLmon : ∀ (s : State) l, l.link = s.lmon.link → P s → P { s with lmon := l })
    (damage : ∀ s : State, P s → P { s with rxp := s.rxp.damage }) (raise : ∀ s f, P s → P (s.raise f))
    (cut : ∀ s, P s → P s.cutAndReport) (s : State) (h : P s) : P s.recenters := by
  have inUp : ∀ u : State, P u → P u.recentersInUp := by
    intro u hu
    unfold State.recentersInUp
    split
    · refine setLmon _ _ ?_ (damage u hu)
      rfl
    · split
      · refine cut _ (raise _ _ (setLmon _ _ ?_ hu))
        rfl
      · refine setLmon _ _ ?_ (damage u hu)
        rfl
  have counted := setLmon s { s.lmon with recenters := s.lmon.recenters + 1, fill := 8 } rfl h
  unfold State.recenters
  dsimp only
  split
  · exact inUp _ counted
  · exact damage _ counted
  · exact damage _ counted

/-! ### The verify pass -/

/-- The part's judgement of the published sections at the end of the verify pass, before a RESET that waits (R130). -/
def State.judged (s : State) : State :=
  if sectionsGood s.desc.store s.desc.published then
    ({ s with desc := { s.desc with passLatest := none } } : State).applyHoldDown
  else
    (({ s with desc := { s.desc with passLatest := none, state := .faulted } } : State).raise .descFault).takeCause
      ⟨.descFault, none, false, none⟩

theorem State.verifyPassEnds_eq (s : State) : s.verifyPassEnds =
    if s.desc.state = .verifying then
      if s.judged.resetWaits then s.judged.resetDescriptorScope else s.judged
    else s := by
  simp only [State.verifyPassEnds, beq_iff_eq]
  rfl

@[simp] theorem State.judged_keeps (s : State) :
    s.judged.pins = s.pins ∧ s.judged.otp = s.otp ∧ s.judged.time = s.time ∧ s.judged.clock = s.clock ∧
      s.judged.rxp = s.rxp ∧ s.judged.filters = s.filters ∧ s.judged.answers = s.answers ∧
      s.judged.templates = s.templates ∧ s.judged.txq = s.txq ∧ s.judged.lmon = s.lmon ∧ s.judged.shed = s.shed ∧
      s.judged.alarms = s.alarms ∧ s.judged.link = s.link ∧ s.judged.settings = s.settings ∧
      s.judged.factory = s.factory ∧ s.judged.counters = s.counters ∧ s.judged.free = s.free ∧
      s.judged.pending = s.pending := by
  unfold State.judged
  split <;> simp

/-! ### The transmit queue and the transmitter -/

@[simp] theorem State.switchToPart_queue (s : State) (forced : Bool) :
    (s.switchToPart forced).txq.queue = s.txq.queue := by
  simp [State.switchToPart]

@[simp] theorem State.testWait_queue (s : State) : s.testWait.txq.queue = s.txq.queue := by
  unfold State.testWait
  split <;> simp

@[simp] theorem State.cutAndReport_queue (s : State) : s.cutAndReport.txq.queue = s.txq.queue := by
  unfold State.cutAndReport
  split <;> simp

/-- RECLAIM's flush leaves the reply in transmission alone, or nothing (R87). -/
theorem State.flushWaiting_txq (s : State) : s.flushWaiting.txq =
    { s.txq with queue := if s.phyTxen then s.txq.queue.take 1 else [] } := by
  unfold State.flushWaiting State.phyTxen
  cases s.txq.transmitter <;> simp

/-- The link leaving UP empties the queue and stops the transmitter (R86). -/
@[simp] theorem State.linkFlush_txq (s : State) : s.linkFlush.txq = Txq.cold := by
  unfold State.linkFlush
  dsimp only
  split <;> simp

@[simp] theorem State.leaveUp_txq (s : State) (dest : Link) : (s.leaveUp dest).txq = Txq.cold := by
  simp [State.leaveUp]

@[simp] theorem State.leaveUp_lmon (s : State) (dest : Link) :
    (s.leaveUp dest).lmon = { s.lmon with link := dest, quarantineEnd := none, lastRecenter := none } := by
  simp [State.leaveUp]

@[simp] theorem State.leaveUp_wlog (s : State) (dest : Link) : (s.leaveUp dest).wlog =
    (({ s with lmon := { s.lmon with link := dest, quarantineEnd := none, lastRecenter := none } } : State).raise
      .linkDown |>.takeCause ⟨.linkDown, none, false, none⟩).wlog := by
  simp [State.leaveUp]

/-- The end of a transmission takes the head off the queue and begins the gap (R85). -/
theorem State.finishHead_txq (s : State) : s.finishHead.txq = ⟨s.txq.queue.tail, s.gapFromNow⟩ := by
  unfold State.finishHead
  cases queue : s.txq.queue <;> simp [State.gapFromNow, queue]

theorem State.endsTransmission_txq (s : State) :
    s.endsTransmission.txq = if s.phyTxen then ⟨s.txq.queue.tail, s.gapFromNow⟩ else s.txq := by
  unfold State.endsTransmission State.phyTxen
  cases s.txq.transmitter
  case sending =>
    dsimp only
    split <;> simp [State.finishHead_txq]
  all_goals simp

end Sys2Proof.Machine
end

/-! Every step keeps the tables: the store in canonical form, the capacities, the entries' templates and the log's
sequence numbers; O57. -/

section
namespace Sys2Proof.Machine

/-! ### The store's form -/

theorem StoreCanonical.of_store {s t : State} (same : t.desc.store = s.desc.store) (h : StoreCanonical s) :
    StoreCanonical t := by
  unfold StoreCanonical at *
  rw [same]
  exact h

@[simp] theorem State.respond_store (s : State) (st : Status) (fields : List Byte) :
    (s.respond st fields).desc.store = s.desc.store := by simp

@[simp] theorem State.applyHoldDown_store (s : State) : s.applyHoldDown.desc.store = s.desc.store := by
  unfold State.applyHoldDown
  split <;> rfl

@[simp] theorem State.resetDescriptorScope_store (s : State) : s.resetDescriptorScope.desc.store = s.desc.store := by
  unfold State.resetDescriptorScope
  (repeat' split) <;> simp

@[simp] theorem State.resetMember_store (s : State) (m : ScopeMember) :
    (s.resetMember m).desc.store = s.desc.store := by
  cases m <;> simp [State.resetMember]

@[simp] theorem State.resetScopes_store (s : State) (scope : Byte) :
    (s.resetScopes scope).desc.store = s.desc.store :=
  State.resetScopes_preserves (P := fun u => u.desc.store = s.desc.store) (fun _ _ kept => by simpa using kept)
    s scope rfl

@[simp] theorem State.takeDeferred_store (s : State) : s.takeDeferred.desc.store = s.desc.store := by
  unfold State.takeDeferred
  split <;> simp

@[simp] theorem State.endTransaction_store (s : State) : s.endTransaction.desc.store = s.desc.store := by
  simp [State.endTransaction]

/-- Conditions and bytes on the bus leave the stored bytes alone (R120 to R125). -/
@[simp] theorem State.busConditions_store (s : State) :
    s.busStarts.desc.store = s.desc.store ∧ s.busStops.desc.store = s.desc.store ∧
      s.sidebandStalls.desc.store = s.desc.store := by
  refine ⟨?_, ?_, ?_⟩
  · unfold State.busStarts
    split <;> rfl
  · unfold State.busStops
    (repeat' split) <;> simp
  · unfold State.sidebandStalls
    split <;> simp

@[simp] theorem State.busWrites_store (s : State) (b : Byte) :
    (s.takeAddress b).desc.store = s.desc.store ∧ (s.writePage b).desc.store = s.desc.store ∧
      (s.writeOffset b).desc.store = s.desc.store := by
  refine ⟨?_, ?_, ?_⟩
  · unfold State.takeAddress
    dsimp only
    (repeat' split) <;> simp [State.refuseAddress]
  · unfold State.writePage
    dsimp only
    (repeat' split) <;> rfl
  · unfold State.writeOffset
    dsimp only
    (repeat' split) <;> rfl

@[simp] theorem State.busReads_store (s : State) (ack : Bool) :
    (s.readPage ack).desc.store = s.desc.store ∧ (s.readDescriptor ack).desc.store = s.desc.store := by
  constructor
  · unfold State.readPage
    (repeat' split) <;> rfl
  · unfold State.readDescriptor
    (repeat' split) <;> rfl

@[simp] theorem State.holdDownEnds_store (s : State) : s.holdDownEnds.desc.store = s.desc.store := by
  unfold State.holdDownEnds
  split <;> rfl

@[simp] theorem State.verifyPassEnds_store (s : State) : s.verifyPassEnds.desc.store = s.desc.store := by
  unfold State.verifyPassEnds
  dsimp only
  (repeat' split) <;> simp

/-- Of the requests, DESC_WRITE alone touches the stored bytes, and its writes keep the form (R114). -/
theorem storeCanonical_keptByRequests : KeptByRequests StoreCanonical := by
  constructor
  case writeStore =>
    intro s o bytes _ h
    exact Memory.writeRun_wf bytes h o
  all_goals
    intros
    refine StoreCanonical.of_store ?_ ‹_›
    simp

/-- The checksum pass writes run by run, the clearing pass and a cold reset leave nothing listed, and a supply switch
keeps what the pass it cuts has written (R117, R127, R129). -/
theorem storeCanonical_keptByEvents : KeptByEvents StoreCanonical := by
  constructor
  case runRequest =>
    intro s kind body requests h
    exact storeCanonical_keptByRequests.run s kind body requests h
  case coldReset =>
    intro s fast _
    exact reset_store_wf
  case supplySwitchReset =>
    intro s us fast h
    obtain ⟨-, -, -, -, -, -, desc, -⟩ := s.supplySwitchReset_settles us fast
    unfold StoreCanonical
    rw [desc]
    simp only [State.descAfterSupplySwitch]
    split
    · exact sumSections_wf _ h
    · exact h
  case checksumPassEnds =>
    intro s h
    unfold State.checksumPassEnds
    split
    · have summed : Memory.wf (sumSections s.desc.store s.desc.passCount) = true := sumSections_wf _ h
      unfold StoreCanonical
      simpa using summed
    · exact h
  case clearingPassEnds =>
    intro s h
    unfold State.clearingPassEnds
    split
    · have empty : Memory.wf [] = true := rfl
      dsimp only
      (repeat' split) <;> (unfold StoreCanonical; simpa using empty)
    · exact h
  all_goals
    intros
    refine StoreCanonical.of_store ?_ ‹_›
    simp

end Sys2Proof.Machine
end

/-! The wake log through a step (R93): what the operations on the log keep, every step keeps. -/

section
namespace Sys2Proof.Machine

/-- The property is kept by every operation on the wake log. -/
structure KeptByLog (Q : Wlog → Prop) : Prop where
  added : ∀ (w : Wlog) q (r : WakeRecord) slots, w.nextSeq = some q → w.records.length < Config.logCapacity →
    r.seq = q → Q w → Q ⟨w.records ++ [r], slots, nextSequence q⟩
  coalesced : ∀ w : Wlog, Q w → Q { w with records := coalesceNewest w.records }
  setSlots : ∀ (w : Wlog) slots, Q w → Q { w with slots := slots }
  taken : ∀ (w : Wlog) r rest, w.records = r :: rest → Q w → Q { w with records := rest }
  emptied : ∀ w : Wlog, Q w → Q { w with records := [] }
  cold : Q Wlog.cold
  switched : ∀ w : Wlog, Q w → Q w.afterSupplySwitch

section
variable {Q : Wlog → Prop}

theorem KeptByLog.addRecord (K : KeptByLog Q) (s : State) (q : Word) (o : Offer) (next : s.wlog.nextSeq = some q)
    (room : s.wlog.records.length < Config.logCapacity) (h : Q s.wlog) : Q (s.addRecord q o).wlog := by
  unfold State.addRecord
  split
  · exact K.added _ _ _ _ next room rfl h
  · exact K.added _ _ _ _ next room rfl h

theorem KeptByLog.takeCause (K : KeptByLog Q) (s : State) (o : Offer) (h : Q s.wlog) : Q (s.takeCause o).wlog := by
  unfold State.takeCause
  split
  · split
    · rename_i q next
      split
      · rename_i room
        simpa using K.addRecord s q o next room h
      · simpa [State.coalesce] using K.coalesced _ h
    · simpa [State.coalesce] using K.coalesced _ h
  · exact h

theorem KeptByLog.freeSlot (K : KeptByLog Q) (s : State) (k : Fin 2) (h : Q s.wlog) : Q (s.freeSlot k).wlog := by
  unfold State.freeSlot
  split
  · exact h
  · exact K.setSlots _ _ h

theorem KeptByLog.freeCaptureOf (K : KeptByLog Q) (s : State) (r : WakeRecord) (h : Q s.wlog) :
    Q (s.freeCaptureOf r).wlog := by
  unfold State.freeCaptureOf
  split
  · exact h
  · exact K.freeSlot _ _ h

theorem KeptByLog.resetMember (K : KeptByLog Q) (s : State) (m : ScopeMember) (h : Q s.wlog) :
    Q (s.resetMember m).wlog := by
  cases m
  case log => exact K.emptied _ (K.freeSlot _ 1 (K.freeSlot s 0 h))
  all_goals simpa [State.resetMember] using h

theorem KeptByLog.announce (K : KeptByLog Q) (s : State) (e : ResetEndEvent) (h : Q s.wlog) :
    Q (s.announce e).wlog := by
  cases e with
  | supplySwitch => exact K.takeCause _ _ h
  | expiry n => exact K.takeCause _ _ (by simpa using h)

/-- The answer walk leaves the log alone. -/
theorem keptByAnswers_wlog : KeptByAnswers fun s => Q s.wlog := by
  constructor
  all_goals
    intros
    assumption

theorem KeptByLog.walk (K : KeptByLog Q) (s : State) (b : Fin 10) (n : Nat) (h : Q s.wlog) : Q (s.walk b n).wlog :=
  State.walk_preserves (P := fun u => Q u.wlog) keptByAnswers_wlog (fun _ _ h => by simpa using h)
    (fun _ _ _ h => K.takeCause _ _ h) (fun _ h => by simpa using h) s n h

theorem KeptByLog.leaveUp (K : KeptByLog Q) (s : State) (dest : Link) (h : Q s.wlog) : Q (s.leaveUp dest).wlog := by
  rw [State.leaveUp_wlog]
  exact K.takeCause _ _ (by simpa using h)

theorem KeptByLog.requests (K : KeptByLog Q) : KeptByRequests fun s => Q s.wlog := by
  constructor
  case resetScopes =>
    intro s scope h
    exact State.resetScopes_preserves (P := fun u => Q u.wlog) K.resetMember s scope h
  case takeRecord =>
    intro s r rest records h
    exact K.freeCaptureOf _ _ (K.taken _ _ _ records h)
  all_goals
    intros
    simpa

/-- What every operation on the wake log keeps, every step keeps. -/
theorem KeptByLog.events (K : KeptByLog Q) : KeptByEvents fun s => Q s.wlog := by
  constructor
  case runRequest =>
    intro s kind body requests h
    exact K.requests.run s kind body requests h
  case coldReset =>
    intro s fast _
    exact K.cold
  case supplySwitchReset =>
    intro s us fast h
    exact State.supplySwitchReset_preserves (P := fun u => Q u.wlog) K.announce (fun _ _ h => h)
      (K.switched _ h)
  case endFrame =>
    intro s partialByte h
    exact State.endFrame_preserves (P := fun u => Q u.wlog) (fun _ h => h) (fun _ _ h => h) (fun _ _ h => h)
      (fun _ _ _ _ h => K.walk _ _ _ h) (fun _ _ h => h) (fun _ h => by simpa using h) s partialByte h
  case verifyPassEnds =>
    intro s h
    have judged : Q s.judged.wlog := by
      unfold State.judged
      split
      · simpa using h
      · exact K.takeCause _ _ h
    rw [State.verifyPassEnds_eq]
    split
    · split
      · simpa using judged
      · exact judged
    · exact h
  case phyLinkFalls =>
    intro s h
    unfold State.phyLinkFalls
    dsimp only
    split
    · exact h
    · exact h
    · exact K.leaveUp _ _ h
  case takeMeasurement =>
    intro s cycles h
    exact State.takeMeasurement_preserves (P := fun u => Q u.wlog) (fun _ _ h => h) (fun _ _ h => h)
      (fun _ _ h => K.leaveUp _ _ h) s cycles h
  case settles =>
    intro s h
    unfold State.settles
    split
    · split
      · exact K.takeCause _ _ h
      · exact h
    · exact h
    · exact h
  case alarmExpires =>
    intro s n h
    unfold State.alarmExpires
    split
    · exact K.takeCause _ _ h
    · exact h
  all_goals
    intros
    simpa

end

end Sys2Proof.Machine
end

/-! Capacities of the filter list, the transmit queue and the wake log (R45, R80, R93). -/

section
namespace Sys2Proof.Machine

/-- Reading a vector after a write at a position: the value there, elsewhere what it held. -/
theorem Vector.get_set {α : Type} {n : Nat} (v : Vector α n) (i j : Fin n) (x : α) :
    (v.set i x)[j] = if i = j then x else v[j] := by
  simp only [Fin.getElem_fin, Vector.getElem_set, Fin.ext_iff]

@[simp] theorem State.hitFilter_length (s : State) (i : Nat) : (s.hitFilter i).filters.length = s.filters.length := by
  simp [State.hitFilter]

/-- The filter list is longer only after a FILTER_INSERT, which needs room (R45, R47). -/
theorem filterCapacity_keptByRequests : KeptByRequests fun s => s.filters.length ≤ Config.filterCapacity := by
  constructor
  case resetScopes =>
    intro s scope h
    have shorter := List.length_filter_le (·.isProtected) s.filters
    rw [State.resetScopes_filters]
    split <;> omega
  case insertFilter =>
    intro s n r room h
    have longer := @List.length_insertIdx_le_succ _ s.filters r n
    dsimp only
    omega
  case removeFilter =>
    intro s n h
    exact Nat.le_trans (List.length_eraseIdx_le s.filters n) h
  all_goals
    intros
    simpa

theorem filterCapacity_keptByEvents : KeptByEvents fun s => s.filters.length ≤ Config.filterCapacity := by
  constructor
  case runRequest =>
    intro s kind body requests h
    exact filterCapacity_keptByRequests.run s kind body requests h
  case coldReset =>
    intro s fast _
    exact Nat.zero_le _
  case endFrame =>
    have answers : KeptByAnswers fun s : State => s.filters.length ≤ Config.filterCapacity := by
      constructor
      all_goals
        intros
        assumption
    intro s partialByte h
    exact State.endFrame_preserves (P := fun u => u.filters.length ≤ Config.filterCapacity) (fun _ h => h)
      (fun _ _ h => h) (fun _ _ h => h)
      (fun s _ n _ h => State.walk_preserves answers (fun _ _ h => by simpa using h) (fun _ _ _ h => by simpa using h)
        (fun _ h => h) s n h)
      (fun _ _ h => h) (fun _ h => by simpa using h) s partialByte h
  all_goals
    intros
    simpa

/-- A reply is queued only with room in the transmit queue (R65, R80). -/
theorem queueCapacity_keptByAnswers : KeptByAnswers fun s => s.txq.queue.length ≤ Config.queueCapacity := by
  constructor
  case queueReply =>
    intro s i e t b frame _ _ room _ _
    simpa [State.queueReply] using room
  all_goals
    intros
    assumption

theorem queueCapacity_keptByRequests : KeptByRequests fun s => s.txq.queue.length ≤ Config.queueCapacity := by
  constructor
  case beginLeaving =>
    intro s _ _ h
    unfold State.beginLeaving
    dsimp only
    split <;> simp [State.flushWaiting_txq] <;> split <;> simp <;> omega
  all_goals
    intros
    simpa

theorem queueCapacity_keptByEvents : KeptByEvents fun s => s.txq.queue.length ≤ Config.queueCapacity := by
  have left : ∀ (s : State) dest, (s.leaveUp dest).txq.queue.length ≤ Config.queueCapacity := by
    simp [Txq.cold]
  constructor
  case runRequest =>
    intro s kind body requests h
    exact queueCapacity_keptByRequests.run s kind body requests h
  case coldReset =>
    intro s fast _
    exact Nat.zero_le _
  case supplySwitchReset =>
    intro s us fast _
    obtain ⟨-, -, -, -, txq, -⟩ := s.supplySwitchReset_settles us fast
    simp [txq, Txq.cold]
  case hostTxFalls =>
    intro s h
    simpa [State.hostTxFalls] using h
  case handoverDeadline =>
    intro s h
    unfold State.handoverDeadlineExpires
    split <;> simpa using h
  case endFrame =>
    intro s partialByte h
    exact State.endFrame_preserves (P := fun u => u.txq.queue.length ≤ Config.queueCapacity) (fun _ h => h)
      (fun _ _ h => h) (fun _ _ h => h)
      (fun s _ n _ h => State.walk_preserves queueCapacity_keptByAnswers (fun _ _ h => h)
        (fun _ _ _ h => by simpa using h) (fun _ h => h) s n h)
      (fun _ _ h => h) (fun _ h => by simpa using h) s partialByte h
  case startsTransmission =>
    intro s h
    unfold State.startsTransmission
    (repeat' split) <;> exact h
  case endsTransmission =>
    intro s h
    rw [State.endsTransmission_txq]
    split
    · simp only [List.length_tail]
      omega
    · exact h
  case endsGap =>
    intro s h
    unfold State.endsGap
    split <;> exact h
  case phyLinkFalls =>
    intro s h
    unfold State.phyLinkFalls
    dsimp only
    split
    · exact h
    · exact h
    · exact left _ _
  case takeMeasurement =>
    intro s cycles h
    exact State.takeMeasurement_preserves (P := fun u => u.txq.queue.length ≤ Config.queueCapacity) (fun _ _ h => h)
      (fun _ _ h => h) (fun _ _ _ => left _ _) s cycles h
  case recenters =>
    intro s h
    exact State.recenters_preserves (P := fun u => u.txq.queue.length ≤ Config.queueCapacity) (fun _ _ _ h => h)
      (fun _ h => h) (fun _ _ h => h) (fun _ h => by simpa using h) s h
  all_goals
    intros
    simpa

/-- Eight records fill the log: the next cause is coalesced (R93, R99). -/
theorem logCapacity_keptByLog : KeptByLog fun w => w.records.length ≤ Config.logCapacity := by
  have coalesced : ∀ l : List WakeRecord, (coalesceNewest l).length = l.length := by
    intro l
    induction l with
    | nil => rfl
    | cons r l ih => cases l <;> simp_all [coalesceNewest]
  constructor
  case added =>
    intro w q r slots _ room _ _
    simpa using room
  case coalesced =>
    intro w h
    simpa [coalesced] using h
  case setSlots => exact fun _ _ h => h
  case taken =>
    intro w r rest records h
    rw [records, List.length_cons] at h
    exact Nat.le_of_succ_le h
  case emptied => exact fun _ _ => Nat.zero_le _
  case cold => exact Nat.zero_le _
  case switched =>
    intro w h
    simpa [Wlog.afterSupplySwitch] using h

end Sys2Proof.Machine
end

/-! The host link through a step (R174 to R193): what its own operations keep, every step keeps. -/

section
namespace Sys2Proof.Machine

/-! ### Responses -/

/-- A response rests on the request queue alone (R178). -/
theorem State.respond_link_congr {s t : State} (same : t.link = s.link) (st : Status) (fields : List Byte) :
    (t.respond st fields).link = (s.respond st fields).link := by
  unfold State.respond
  rw [same]
  split <;> simp [same]

@[simp] theorem State.switchToPart_link (s : State) (forced : Bool) :
    (s.switchToPart forced).link = (s.respond .ok [flagByte forced]).link := by
  unfold State.switchToPart
  exact State.respond_link_congr (by simp) _ _

@[simp] theorem State.leavingEnd_link (s : State) :
    s.leavingEnd.link = (s.respond .ok [0, BitVec.ofNat 8 s.prc.escalations.val]).link := by
  unfold State.leavingEnd
  simp only [(State.cutFrame_keeps s).2.2.2.2.1]
  exact State.respond_link_congr (by simp) _ _

/-- A deferred DESC_OPEN is answered as it is taken, a deferred RESET waits on (R113, R128). -/
theorem State.takeDeferred_link (s : State) : s.takeDeferred.link =
    if s.desc.deferred = .descOpen then (s.respond .ok [DescState.published.code, 1]).link else s.link := by
  unfold State.takeDeferred
  cases s.desc.deferred with
  | none => rfl
  | descOpen => exact State.respond_link_congr (by simp) _ _
  | reset => rfl

/-! ### A property of the host link -/

/-- The property is kept by every operation on the host link. -/
structure KeptByLink (Q : HostLink → Prop) : Prop where
  responded : ∀ (l : HostLink) r rest slot, l.requests = r :: rest → Q l →
    Q { l with requests := rest, executing := false, slot := slot }
  appended : ∀ (l : HostLink) m, l.requests.length < Config.requestCapacity → Q l →
    Q { l with requests := l.requests ++ [m] }
  executing : ∀ (l : HostLink) r rest, l.requests = r :: rest → Q l → Q { l with executing := true }
  aside : ∀ (l : HostLink) a slot tx startUp, Q l →
    Q { l with assembler := a, slot := slot, tx := tx, startUp := startUp }
  cold : ∀ fast, Q (HostLink.cold fast)

section
variable {Q : HostLink → Prop}

theorem KeptByLink.respond (K : KeptByLink Q) (s : State) (st : Status) (fields : List Byte) (h : Q s.link) :
    Q (s.respond st fields).link := by
  unfold State.respond
  split
  · exact h
  · rename_i r rest requests
    exact K.responded _ _ _ _ requests h

theorem KeptByLink.send (K : KeptByLink Q) (s : State) (m : Message) (h : Q s.link) : Q (s.send m).link :=
  K.aside _ s.link.assembler s.link.slot _ s.link.startUp h

theorem KeptByLink.testWait (K : KeptByLink Q) (s : State) (h : Q s.link) : Q s.testWait.link := by
  unfold State.testWait
  split
  · rw [State.switchToPart_link]
    exact K.respond _ _ _ h
  · exact h

theorem KeptByLink.leavingEnd (K : KeptByLink Q) (s : State) (h : Q s.link) : Q s.leavingEnd.link := by
  rw [State.leavingEnd_link]
  exact K.respond _ _ _ h

theorem KeptByLink.cutAndReport (K : KeptByLink Q) (s : State) (h : Q s.link) : Q s.cutAndReport.link := by
  unfold State.cutAndReport
  split
  · exact K.testWait _ (by simpa using h)
  · exact h

theorem KeptByLink.leaveUp (K : KeptByLink Q) (s : State) (dest : Link) (h : Q s.link) :
    Q (s.leaveUp dest).link := by
  have flush : ∀ u : State, Q u.link → Q u.linkFlush.link := by
    intro u hu
    unfold State.linkFlush
    dsimp only
    split
    · exact K.leavingEnd _ (by simpa using hu)
    · simpa using hu
  exact flush _ (K.cutAndReport _ (by simpa using h))

theorem KeptByLink.takeDeferred (K : KeptByLink Q) (s : State) (h : Q s.link) : Q s.takeDeferred.link := by
  rw [State.takeDeferred_link]
  split
  · exact K.respond _ _ _ h
  · exact h

theorem KeptByLink.endTransaction (K : KeptByLink Q) (s : State) (h : Q s.link) : Q s.endTransaction.link :=
  K.takeDeferred _ h

theorem KeptByLink.beginLeaving (K : KeptByLink Q) (s : State) (h : Q s.link) : Q s.beginLeaving.link := by
  unfold State.beginLeaving
  dsimp only
  split
  · simpa using h
  · exact K.leavingEnd _ (by simpa using h)

theorem KeptByLink.requests (K : KeptByLink Q) : KeptByRequests fun s => Q s.link := by
  constructor
  case respond => exact fun s st fl h => K.respond s st fl h
  case beginHandover => exact fun s _ h => K.testWait _ h
  case beginLeaving => exact fun s _ _ h => K.beginLeaving s h
  all_goals
    intros
    simpa

/-- What every operation on the host link keeps, every step keeps. -/
theorem KeptByLink.events (K : KeptByLink Q) : KeptByEvents fun s => Q s.link := by
  constructor
  case runRequest =>
    intro s kind body requests h
    exact K.requests.run s kind body requests h
  case sendResponse =>
    intro s m h
    exact K.send _ m (K.aside s.link s.link.assembler none s.link.tx s.link.startUp h)
  case sendNotice =>
    intro s flag h
    unfold State.sendNotice
    split
    · exact h
    · exact K.send _ _ h
  case beginExecuting => exact fun s r rest requests h => K.executing _ _ _ requests h
  case setAssembler => exact fun s a h => K.aside s.link a s.link.slot s.link.tx s.link.startUp h
  case offerFrame =>
    intro s m h
    unfold State.offerFrame
    split
    · rename_i room
      exact K.appended _ _ room h
    · simpa using h
  case frameSent =>
    intro s h
    unfold State.frameSent
    split
    · exact h
    · exact K.aside s.link s.link.assembler s.link.slot none _ h
  case coldReset => exact fun s fast _ => K.cold fast
  case supplySwitchReset =>
    intro s us fast _
    obtain ⟨-, -, -, -, -, -, -, -, -, -, link⟩ := s.supplySwitchReset_settles us fast
    rw [link]
    exact K.aside (HostLink.cold fast) _ _ _ .started (K.cold fast)
  case hostTxFalls => exact fun s h => K.testWait _ h
  case handoverDeadline =>
    intro s h
    unfold State.handoverDeadlineExpires
    split
    · rw [State.switchToPart_link]
      exact K.respond _ _ _ h
    · exact h
  case endFrame =>
    intro s partialByte h
    exact State.endFrame_preserves (P := fun u => Q u.link) (fun _ h => h) (fun _ _ h => h) (fun _ _ h => h)
      (fun _ _ _ _ h => by simpa using h) (fun _ _ h => h) (fun _ h => K.testWait _ h) s partialByte h
  case endsTransmission =>
    intro s h
    unfold State.endsTransmission
    split
    · dsimp only
      split
      · exact K.leavingEnd _ (by simpa using h)
      · simpa using h
    · exact h
    · exact h
  case checksumPassEnds =>
    intro s h
    unfold State.checksumPassEnds
    split
    · exact K.respond _ _ _ (by simpa using h)
    · exact h
  case clearingPassEnds =>
    intro s h
    have started : ∀ u : State, Q u.link → Q (u.sendStarted 0).link :=
      fun u hu => K.aside u.link u.link.assembler u.link.slot _ .started hu
    unfold State.clearingPassEnds
    dsimp only
    split
    · split
      · split
        · exact K.respond _ _ _ (started _ h)
        · exact started _ h
      · split
        · exact K.respond _ _ _ h
        · exact h
    · exact h
  case busStops =>
    intro s h
    unfold State.busStops
    split
    · exact h
    · split
      · exact K.endTransaction _ h
      · exact K.endTransaction _ h
  case sidebandStalls =>
    intro s h
    unfold State.sidebandStalls
    split
    · exact K.endTransaction _ h
    · exact h
  case phyLinkFalls =>
    intro s h
    unfold State.phyLinkFalls
    dsimp only
    split
    · exact h
    · exact h
    · exact K.leaveUp _ _ h
  case takeMeasurement =>
    intro s cycles h
    exact State.takeMeasurement_preserves (P := fun u => Q u.link) (fun _ _ h => h) (fun _ _ h => h)
      (fun _ _ h => K.leaveUp _ _ h) s cycles h
  case recenters =>
    intro s h
    exact State.recenters_preserves (P := fun u => Q u.link) (fun _ _ _ h => h) (fun _ h => h) (fun _ _ h => h)
      (fun _ h => K.cutAndReport _ h) s h
  all_goals
    intros
    simpa

end

/-- Four requests fill the queue: the next is dropped (R177). -/
theorem requestCapacity_keptByLink : KeptByLink fun l => l.requests.length ≤ Config.requestCapacity := by
  constructor
  case responded =>
    intro l r rest slot requests h
    rw [requests, List.length_cons] at h
    exact Nat.le_of_succ_le h
  case appended =>
    intro l m room _
    simpa using room
  case executing => exact fun _ _ _ _ h => h
  case aside => exact fun _ _ _ _ _ h => h
  case cold => exact fun _ => Nat.zero_le _

/-- A response ends the execution, and only a request in the queue begins one (R178). -/
theorem executingHasRequest_keptByLink : KeptByLink fun l => l.executing = true → l.requests ≠ [] := by
  constructor
  case responded => simp
  case appended => simp
  case executing =>
    intro l r rest requests _ _
    simp [requests]
  case aside => exact fun _ _ _ _ _ h => h
  case cold => simp [HostLink.cold]

end Sys2Proof.Machine
end

/-! The entries' templates and the log's sequence numbers through a step, and O57. -/

section
namespace Sys2Proof.Machine

/-! ### Templates that entries name -/

/-- No entry names a template of which the search finds none (R73). -/
theorem lowestNaming_eq_none_iff {answers : Vector (Option AnswerEntry) 32} {id : Fin 16} :
    lowestNaming answers id = none ↔ ∀ (i : Fin 32) (e : AnswerEntry), answers[i] = some e → e.template ≠ id := by
  unfold lowestNaming
  rw [List.find?_eq_none]
  constructor
  · intro none i e entry
    have unnamed := none i (List.mem_finRange i)
    rw [entry] at unnamed
    simpa using unnamed
  · intro unnamed i _
    cases entry : answers[i] with
    | none => simp
    | some e => simpa using unnamed i e entry

/-- Every entry of a table keeps its template defined when the table only loses entries, or gains hits. -/
theorem EntriesNameTemplates.of_entries {s t : State} (templates : t.templates = s.templates)
    (entries : ∀ (i : Fin 32) e, t.answers[i] = some e →
      ∃ (j : Fin 32) (e' : AnswerEntry), s.answers[j] = some e' ∧ e'.template = e.template) (h : EntriesNameTemplates s) :
    EntriesNameTemplates t := by
  intro i e entry
  obtain ⟨j, e', before, same⟩ := entries i e entry
  have defined := h j e' before
  simp only [same] at defined
  rw [templates]
  exact defined

theorem EntriesNameTemplates.of_same {s t : State} (templates : t.templates = s.templates)
    (answers : t.answers = s.answers) (h : EntriesNameTemplates s) : EntriesNameTemplates t :=
  h.of_entries templates fun i e entry => ⟨i, e, by rw [← answers]; exact entry, rfl⟩

/-- An entry set in the table with the template of one that was there. -/
theorem EntriesNameTemplates.of_set {s t : State} {i : Fin 32} {e e' : AnswerEntry}
    (templates : t.templates = s.templates) (answers : t.answers = s.answers.set i (some e'))
    (before : s.answers[i] = some e) (same : e.template = e'.template) (h : EntriesNameTemplates s) :
    EntriesNameTemplates t := by
  refine h.of_entries templates fun j x entry => ?_
  rw [answers, Vector.get_set] at entry
  split at entry
  · cases entry
    exact ⟨i, e, before, same⟩
  · exact ⟨j, x, entry, rfl⟩

theorem entriesNameTemplates_keptByAnswers : KeptByAnswers EntriesNameTemplates := by
  constructor
  case hitAnswer => exact fun s i e entry h => EntriesNameTemplates.of_set (s := s) rfl rfl entry rfl h
  case queueReply => exact fun s i e t b frame entry _ _ _ h =>
    EntriesNameTemplates.of_set (s := s) rfl rfl entry rfl h
  all_goals
    intros
    exact EntriesNameTemplates.of_same rfl rfl ‹_›

/-- With TABLES the protected entries stay, and of the templates those that an entry which stays names (R79). -/
theorem EntriesNameTemplates.resetTablesScope {s : State} (h : EntriesNameTemplates s) :
    EntriesNameTemplates s.resetTablesScope := by
  intro i e entry
  have named : (lowestNaming (answersAfterTablesReset s.answers) e.template).isSome = true := by
    rw [Option.isSome_iff_ne_none, ne_eq, lowestNaming_eq_none_iff]
    exact fun unnamed => unnamed i e entry rfl
  have before : s.answers[i] = some e := by
    simp only [State.resetTablesScope, answersAfterTablesReset, Fin.getElem_fin, Vector.getElem_map,
      Option.filter_eq_some_iff] at entry
    exact entry.1
  simpa [State.resetTablesScope, templatesAfterTablesReset, named] using h i e before

theorem entriesNameTemplates_keptByRequests : KeptByRequests EntriesNameTemplates := by
  constructor
  case resetScopes =>
    refine State.resetScopes_preserves fun s m h => ?_
    cases m
    case tables => exact h.resetTablesScope
    all_goals exact h.of_same (by simp [State.resetMember]) (by simp [State.resetMember])
  case setAnswer =>
    intro s i form e admitted h j x entry
    rw [Vector.get_set] at entry
    split at entry
    · cases entry
      unfold State.answerOf at admitted
      split at admitted
      · split at admitted
        · rename_i defined
          cases admitted
          simp only [Bool.and_eq_true] at defined
          exact defined.2
        · cases admitted
      · cases admitted
    · exact h j x entry
  case clearAnswer =>
    intro s i h j x entry
    rw [Vector.get_set] at entry
    split at entry
    · cases entry
    · exact h j x entry
  case setTemplate =>
    intro s id t form _ _ _ _ _ h j x entry
    rw [Vector.get_set]
    split
    · rfl
    · exact h j x entry
  case clearTemplate =>
    intro s id unnamed h j x entry
    have other : id ≠ x.template := Ne.symm (lowestNaming_eq_none_iff.mp unnamed j x entry)
    rw [Vector.get_set, if_neg other]
    exact h j x entry
  all_goals
    intros
    refine EntriesNameTemplates.of_same ?_ ?_ ‹_› <;> simp

theorem entriesNameTemplates_keptByEvents : KeptByEvents EntriesNameTemplates := by
  constructor
  case runRequest =>
    intro s kind body requests h
    exact entriesNameTemplates_keptByRequests.run s kind body requests h
  case coldReset =>
    intro s fast _ i e entry
    simp [State.coldReset, State.coldStart] at entry
  case endFrame =>
    intro s partialByte h
    exact State.endFrame_preserves (fun _ h => h.of_same rfl rfl) (fun _ _ h => h.of_same rfl rfl)
      (fun _ _ h => h.of_same rfl rfl)
      (fun s _ n _ h => State.walk_preserves entriesNameTemplates_keptByAnswers (fun _ _ h => h.of_same rfl rfl)
        (fun _ _ _ h => h.of_same (by simp) (by simp)) (fun _ h => h.of_same rfl rfl) s n h)
      (fun _ _ h => h.of_same rfl rfl) (fun _ h => h.of_same (by simp) (by simp)) s partialByte h
  all_goals
    intros
    refine EntriesNameTemplates.of_same ?_ ?_ ‹_› <;> simp

/-! ### Sequence numbers -/

/-- The records' sequence numbers rise and lie below the next one (R93, R97). -/
def Wlog.SequencesRise (w : Wlog) : Prop :=
  (w.records.map fun r => r.seq.toNat).Pairwise (· < ·)
    ∧ ∀ q, w.nextSeq = some q → ∀ r ∈ w.records, r.seq.toNat < q.toNat

theorem sequencesRise_iff (s : State) : SequencesRise s ↔ s.wlog.SequencesRise := Iff.rfl

/-- Coalescing leaves the sequence numbers as they were (R99). -/
theorem coalesceNewest_seq (l : List WakeRecord) :
    (coalesceNewest l).map (fun r => r.seq.toNat) = l.map fun r => r.seq.toNat := by
  induction l with
  | nil => rfl
  | cons r l ih =>
    cases l with
    | nil => rfl
    | cons r' l' => simpa [coalesceNewest] using ih

/-- The numbers below the next, stated of the numbers alone. -/
theorem Wlog.below_iff (w : Wlog) (n : Nat) :
    (∀ r ∈ w.records, r.seq.toNat < n) ↔ ∀ k ∈ w.records.map (fun r => r.seq.toNat), k < n := by
  simp

/-- A log with the same numbers, or with some of them gone, and the same next one. -/
theorem Wlog.SequencesRise.of_sublist {w w' : Wlog} (h : w.SequencesRise) (next : w'.nextSeq = w.nextSeq)
    (numbers : List.Sublist (w'.records.map fun r => r.seq.toNat) (w.records.map fun r => r.seq.toNat)) :
    w'.SequencesRise := by
  obtain ⟨rise, below⟩ := h
  refine ⟨rise.sublist numbers, fun q hq => ?_⟩
  rw [Wlog.below_iff]
  rw [next] at hq
  exact fun k hk => (Wlog.below_iff w _).mp (below q hq) k (numbers.subset hk)

/-- The number after `q` lies above it (R97, R100). -/
theorem lt_of_nextSequence {q q' : Word} (next : nextSequence q = some q') : q.toNat < q'.toNat := by
  unfold nextSequence at next
  split at next
  · cases next
  · rename_i notLast
    cases next
    have below : q.toNat ≠ 4294967295 := fun h => notLast (BitVec.eq_of_toNat_eq h)
    bv_omega

theorem sequencesRise_keptByLog : KeptByLog Wlog.SequencesRise := by
  constructor
  case added =>
    intro w q r slots next _ seq h
    obtain ⟨rise, below⟩ := h
    subst seq
    constructor
    · rw [List.map_append, List.pairwise_append]
      refine ⟨rise, by simp, fun k hk k' hk' => ?_⟩
      rw [List.map_singleton, List.mem_singleton] at hk'
      rw [hk']
      exact (Wlog.below_iff w _).mp (below _ next) k hk
    · intro q' next' x hx
      have later := lt_of_nextSequence next'
      rcases List.mem_append.mp hx with old | new
      · exact Nat.lt_trans (below _ next x old) later
      · rw [List.mem_singleton.mp new]
        exact later
  case coalesced =>
    intro w h
    refine h.of_sublist rfl ?_
    rw [coalesceNewest_seq]
  case setSlots => exact fun w slots h => h
  case taken =>
    intro w r rest records h
    refine h.of_sublist rfl ?_
    rw [records]
    exact (List.sublist_cons_self r rest).map _
  case emptied => exact fun w h => h.of_sublist rfl (List.nil_sublist _)
  case cold => exact ⟨List.Pairwise.nil, by simp [Wlog.cold]⟩
  case switched =>
    intro w h
    refine h.of_sublist rfl ?_
    simp [Wlog.afterSupplySwitch, Function.comp_def]

/-! ### O57 -/

theorem withinCapacity_of_step {s t : State} (taken : step s = .next t) (h : WithinCapacity s) : WithinCapacity t := by
  obtain ⟨filters, queue, records, requests⟩ := h
  exact ⟨filterCapacity_keptByEvents.step s t taken filters, queueCapacity_keptByEvents.step s t taken queue,
    logCapacity_keptByLog.events.step s t taken records, requestCapacity_keptByLink.events.step s t taken requests⟩

/-- Settles O57: each table is kept by every operation that a step is made of. -/
theorem stepKeepsTables : Obligations.StepKeepsTables := by
  intro s t taken
  exact ⟨storeCanonical_keptByEvents.step s t taken, withinCapacity_of_step taken,
    entriesNameTemplates_keptByEvents.step s t taken, sequencesRise_keptByLog.events.step s t taken⟩

end Sys2Proof.Machine
end

/-! The settings, the notices and the link monitor through a step (R132, R182, R187). -/

section
namespace Sys2Proof.Machine

/-! ### Settings in range -/

/-- Writing a number setting sets that number and no other (R187). -/
theorem Settings.number_setNumber (table : Settings) {id lo hi : Nat} (range : settingRange id = some (lo, hi))
    (v j : Nat) : (table.setNumber id v).number j = if j = id then some v else table.number j := by
  by_cases same : j = id
  · subst same
    rw [if_pos rfl]
    unfold settingRange at range
    split at range <;> first | rfl | cases range
  · rw [if_neg same]
    unfold settingRange at range
    split at range
    case h_17 => cases range
    all_goals
      unfold Settings.number
      split <;> first | rfl | exact absurd rfl same

/-- Writing a number setting leaves the tiers alone (R187). -/
@[simp] theorem Settings.setNumber_tiers (table : Settings) (id v : Nat) :
    (table.setNumber id v).tiers = table.tiers := by
  unfold Settings.setNumber
  split <;> rfl

/-- The settings table has every setting in its range (R154, R187). -/
def Settings.InRange (table : Settings) : Prop :=
  (∀ id lo hi v, settingRange id = some (lo, hi) → table.number id = some v → lo ≤ v ∧ v ≤ hi)
    ∧ ∀ k : Fin 4, 1 ≤ table.tiers[k].threshold ∧ table.tiers[k].threshold ≤ 65535 ∧ table.tiers[k].level ≠ 0

theorem settingsInRange_iff (s : State) : SettingsInRange s ↔ s.settings.InRange := Iff.rfl

theorem Settings.default_inRange : Settings.default.InRange := by
  refine ⟨fun id lo hi v range number => ?_, fun k => by simp [Settings.default, Tier.default]⟩
  unfold settingRange at range
  split at range <;> cases range <;> cases number <;> decide

/-- Two bytes give a number below 65536 (R194). -/
theorem ofBytesBE_pair_lt (b1 b0 : Byte) : ofBytesBE [b1, b0] < 65536 := by
  have h1 := b1.isLt
  have h0 := b0.isLt
  simp only [ofBytesBE, List.foldl_cons, List.foldl_nil]
  omega

/-- The tier that four bytes give has its threshold and level in range (R154). -/
theorem Tier.ofBytes_inRange {b0 b1 b2 b3 : Byte} {tier : Tier} (read : Tier.ofBytes b0 b1 b2 b3 = some tier) :
    1 ≤ tier.threshold ∧ tier.threshold ≤ 65535 ∧ tier.level ≠ 0 := by
  unfold Tier.ofBytes at read
  split at read
  · cases read
  · dsimp only at read
    split at read
    · rename_i fields
      cases read
      obtain ⟨-, levelLow, -, thresholdLow⟩ := fields
      have high := ofBytesBE_pair_lt b2 b3
      refine ⟨thresholdLow, Nat.le_of_lt_succ high, fun zero => ?_⟩
      have : b1.toNat % 16 = 0 := congrArg Fin.val zero
      omega
    · cases read

/-- SETTING_SET takes only a value in the setting's range (R187). -/
theorem Settings.InRange.write {table after : Settings} {id : Nat} {b0 b1 b2 b3 : Byte}
    (written : table.write id b0 b1 b2 b3 = some after) (h : table.InRange) : after.InRange := by
  obtain ⟨numbers, tiers⟩ := h
  unfold Settings.write at written
  split at written
  · rename_i k _
    rw [Option.map_eq_some_iff] at written
    obtain ⟨tier, read, rfl⟩ := written
    refine ⟨fun j lo hi v range number => numbers j lo hi v range number, fun j => ?_⟩
    rw [Vector.get_set]
    split
    · exact Tier.ofBytes_inRange read
    · exact tiers j
  · split at written
    · cases written
    · rename_i lo hi range
      dsimp only at written
      split at written
      · rename_i inside
        cases written
        refine ⟨fun j lo' hi' v range' number => ?_, fun k => by simpa using tiers k⟩
        rw [Settings.number_setNumber table range] at number
        split at number
        · rename_i same
          subst same
          rw [range] at range'
          cases range'
          cases number
          exact inside
        · exact numbers j lo' hi' v range' number
      · cases written

theorem settingsInRange_keptByRequests : KeptByRequests fun s => s.settings.InRange := by
  constructor
  case resetScopes =>
    intro s scope h
    refine State.resetScopes_preserves (P := fun u => u.settings.InRange) (fun u m hu => ?_) s scope h
    cases m
    case settings => exact Settings.default_inRange
    all_goals simpa [State.resetMember] using hu
  case setSettings => exact fun s id b0 b1 b2 b3 table written h => h.write written
  all_goals
    intros
    simpa

theorem settingsInRange_keptByEvents : KeptByEvents fun s => s.settings.InRange := by
  constructor
  case runRequest =>
    intro s kind body requests h
    exact settingsInRange_keptByRequests.run s kind body requests h
  case coldReset => exact fun s fast _ => Settings.default_inRange
  all_goals
    intros
    simpa

/-! ### Notices of set flags -/

/-- A notice is pending only of a flag that is set and whose mask bit is set (R182, R184, R185). -/
def Events.NoticesAgree (e : Events) : Prop :=
  ∀ i : Fin 16, (e.notices[i]).isSome = true → e.flags.getLsbD i = true ∧ e.mask.getLsbD i = true

theorem noticesOfSetFlags_iff (s : State) : NoticesOfSetFlags s ↔ s.events.NoticesAgree := Iff.rfl

@[simp] theorem Events.raise_mask (e : Events) (f : EventFlag) (now : Time) : (e.raise f now).mask = e.mask := by
  unfold Events.raise
  split <;> rfl

/-- A raise makes a notice of its own flag alone, where the flag was clear and its mask bit is set (R182). -/
theorem Events.raise_notices (e : Events) (f : EventFlag) (now : Time) (i : Fin 16) :
    (e.raise f now).notices[i] =
      if e.flags.getLsbD f.number = false ∧ e.mask.getLsbD f.number = true ∧ i = f.number then some now
      else e.notices[i] := by
  unfold Events.raise
  cases flag : e.flags.getLsbD f.number
  · cases mask : e.mask.getLsbD f.number
    · simp
    · by_cases same : i = f.number
      · subst same
        simp
      · have other : ((f.number : Fin 16) : Nat) ≠ i := fun h => same (Fin.ext h.symm)
        simp [same, other]
  · simp

theorem Events.dropNotices_get (e : Events) (m : Half) (i : Fin 16) :
    (e.dropNotices m)[i] = if m.getLsbD i = true then none else e.notices[i] := by
  simp [Events.dropNotices]

theorem Events.NoticesAgree.raise {e : Events} (h : e.NoticesAgree) (f : EventFlag) (now : Time) :
    (e.raise f now).NoticesAgree := by
  intro i pending
  rw [Events.raise_flags, Events.raise_mask]
  rw [Events.raise_notices] at pending
  split at pending
  · rename_i raised
    obtain ⟨-, mask, rfl⟩ := raised
    simp [mask]
  · obtain ⟨flag, mask⟩ := h i pending
    simp [flag, mask]

theorem Events.NoticesAgree.clear {e : Events} (h : e.NoticesAgree) (m : Half) : (e.clear m).NoticesAgree := by
  intro i pending
  simp only [Events.clear, Events.dropNotices_get] at pending
  split at pending
  · cases pending
  · rename_i unnamed
    obtain ⟨flag, mask⟩ := h i pending
    simpa [Events.clear, flag, mask] using unnamed

theorem Events.NoticesAgree.setMask {e : Events} (h : e.NoticesAgree) (m : Half) : (e.setMask m).NoticesAgree := by
  intro i pending
  simp only [Events.setMask, Events.dropNotices_get] at pending
  split at pending
  · cases pending
  · rename_i masked
    obtain ⟨flag, -⟩ := h i pending
    simpa [Events.setMask, flag] using masked

/-- A notice that is sent is pending no more (R183). -/
theorem Events.NoticesAgree.sent {e : Events} (h : e.NoticesAgree) (flag : Fin 16) :
    Events.NoticesAgree { e with notices := e.notices.set flag none } := by
  intro i pending
  rw [Vector.get_set] at pending
  split at pending
  · cases pending
  · exact h i pending

/-- Taking a cause raises LOG_FULL where it coalesces, and no other flag (R99). -/
theorem State.takeCause_events (s : State) (o : Offer) :
    (s.takeCause o).events = s.events ∨ (s.takeCause o).events = s.events.raise .logFull s.time := by
  unfold State.takeCause
  (repeat' split) <;> simp [State.coalesce]

theorem Events.NoticesAgree.takeCause {s : State} (h : s.events.NoticesAgree) (o : Offer) :
    (s.takeCause o).events.NoticesAgree := by
  rcases s.takeCause_events o with same | raised
  · rwa [same]
  · rw [raised]
    exact h.raise _ _

theorem Events.cold_noticesAgree (good : Bool) : (Events.cold good).NoticesAgree := by
  intro i pending
  cases good
  · by_cases first : i = 0
    · subst first
      exact ⟨rfl, rfl⟩
    · have other : (0 : Nat) ≠ i := fun h => first (Fin.ext h.symm)
      simp [Events.cold, other] at pending
  · simp [Events.cold] at pending

theorem noticesAgree_keptByAnswers : KeptByAnswers fun s => s.events.NoticesAgree := by
  constructor
  case raise => exact fun s f h => h.raise _ _
  all_goals
    intros
    assumption

theorem noticesAgree_keptByRequests : KeptByRequests fun s => s.events.NoticesAgree := by
  constructor
  case clearFlags => exact fun s m h => h.clear m
  case setMask => exact fun s m h => h.setMask m
  all_goals
    intros
    simpa

theorem Events.NoticesAgree.leaveUp {s : State} (h : s.events.NoticesAgree) (dest : Link) :
    (s.leaveUp dest).events.NoticesAgree := by
  simp only [State.leaveUp, State.linkFlush_keeps, State.cutAndReport_keeps]
  exact Events.NoticesAgree.takeCause (h.raise _ _) _

theorem noticesAgree_keptByEvents : KeptByEvents fun s => s.events.NoticesAgree := by
  constructor
  case runRequest =>
    intro s kind body requests h
    exact noticesAgree_keptByRequests.run s kind body requests h
  case sendNotice =>
    intro s flag h
    unfold State.sendNotice
    split
    · exact h
    · exact h.sent flag
  case offerFrame =>
    intro s m h
    unfold State.offerFrame
    split
    · exact h
    · exact h.raise _ _
  case raise => exact fun s f h => h.raise _ _
  case coldReset => exact fun s fast _ => Events.cold_noticesAgree _
  case supplySwitchReset =>
    intro s us fast _
    refine State.supplySwitchReset_preserves (P := fun u => u.events.NoticesAgree) (fun u e hu => ?_) (fun _ _ h => h) ?_
    · cases e with
      | supplySwitch => exact hu.takeCause _
      | expiry n => exact Events.NoticesAgree.takeCause (hu.raise _ _) _
    · intro i pending
      simp [State.settleBlocks] at pending
  case wakeAckTimer =>
    intro s h
    unfold State.wakeAckTimerExpires
    split
    · split
      · exact h
      · exact h.raise _ _
    · exact h
  case startFrame =>
    intro s b h
    obtain same | ⟨-, f, started⟩ | ⟨-, i, f, -, started⟩ | ⟨-, f, started⟩ := s.startFrame_cases b
    · rwa [same]
    · rwa [started]
    · rwa [started]
    · rw [started]
      exact h.raise _ _
  case endFrame =>
    intro s partialByte h
    exact State.endFrame_preserves (P := fun u => u.events.NoticesAgree) (fun _ h => h) (fun _ _ h => h)
      (fun _ _ h => h)
      (fun s _ n _ h => State.walk_preserves noticesAgree_keptByAnswers (fun _ _ h => h) (fun _ _ _ h => h.takeCause _)
        (fun _ h => h) s n h)
      (fun _ _ h => h) (fun _ h => by simpa using h) s partialByte h
  case verifyPassEnds =>
    intro s h
    have judged : s.judged.events.NoticesAgree := by
      unfold State.judged
      split
      · simpa using h
      · exact Events.NoticesAgree.takeCause (h.raise _ _) _
    rw [State.verifyPassEnds_eq]
    split
    · split
      · simpa using judged
      · exact judged
    · exact h
  case phyLinkFalls =>
    intro s h
    unfold State.phyLinkFalls
    dsimp only
    split
    · exact h
    · exact h
    · refine Events.NoticesAgree.leaveUp ?_ _
      exact h
  case takeMeasurement =>
    intro s cycles h
    exact State.takeMeasurement_preserves (P := fun u => u.events.NoticesAgree) (fun _ _ h => h)
      (fun _ _ h => h.raise _ _) (fun _ _ h => h.leaveUp _) s cycles h
  case settles =>
    intro s h
    unfold State.settles
    split
    · split
      · exact Events.NoticesAgree.takeCause (h.raise _ _) _
      · exact h
    · exact h
    · exact h
  case recenters =>
    intro s h
    exact State.recenters_preserves (P := fun u => u.events.NoticesAgree) (fun _ _ _ h => h) (fun _ h => h)
      (fun _ _ h => h.raise _ _) (fun _ h => by simpa using h) s h
  case windowEnds =>
    intro s h
    unfold State.windowEnds
    dsimp only
    split
    · split
      · exact h
      · exact h.raise _ _
    · exact h
  case alarmExpires =>
    intro s n h
    unfold State.alarmExpires
    split
    · exact Events.NoticesAgree.takeCause (h.raise _ _) _
    · exact h
  all_goals
    intros
    simpa

/-! ### Quarantine within UP -/

/-- Quarantine and the last recenter stand only in UP (R132). -/
def Lmon.Agrees (l : Lmon) : Prop := (∃ c, l.link = .up c) ∨ (l.quarantineEnd = none ∧ l.lastRecenter = none)

theorem linkAgrees_iff (s : State) : LinkAgrees s ↔ s.lmon.Agrees := Iff.rfl

/-- Outside UP there is neither. -/
theorem Lmon.Agrees.outside {l : Lmon} (h : l.Agrees) (outside : ∀ c, l.link ≠ .up c) :
    l.quarantineEnd = none ∧ l.lastRecenter = none := by
  rcases h with ⟨c, up⟩ | none
  · exact absurd up (outside c)
  · exact none

theorem Lmon.Agrees.testLinkPair {s : State} (h : s.lmon.Agrees) (down : s.lmon.link = .down) :
    s.testLinkPair.lmon.Agrees := by
  have idle := h.outside (by simp [down])
  unfold State.testLinkPair
  split
  · exact h
  · split
    · exact h
    · split
      · exact Or.inr idle
      · exact h

theorem Lmon.Agrees.actOnMeasurement {s : State} (h : s.lmon.Agrees) (m : Nat) :
    (s.actOnMeasurement m).lmon.Agrees := by
  unfold State.actOnMeasurement
  split
  · rename_i down
    exact h.testLinkPair down
  · rename_i c e settling
    have idle := h.outside (by simp [settling])
    split
    · exact Or.inr idle
    · split
      · exact h
      · exact Or.inr idle
  · rename_i c up
    split
    · exact Or.inr (by simp)
    · split
      · unfold State.testRate
        split
        · exact h
        · split
          · exact Or.inl ⟨c, up⟩
          · exact h
      · exact Or.inr (by simp)

theorem linkAgrees_keptByEvents : KeptByEvents fun s => s.lmon.Agrees := by
  constructor
  case coldReset => exact fun s fast _ => Or.inr ⟨rfl, rfl⟩
  case supplySwitchReset =>
    intro s us fast _
    obtain ⟨-, -, -, -, -, -, -, lmon, -⟩ := s.supplySwitchReset_settles us fast
    rw [lmon]
    exact Or.inr ⟨rfl, rfl⟩
  case startFrame =>
    intro s b h
    obtain same | ⟨-, f, started⟩ | ⟨-, i, f, -, started⟩ | ⟨-, f, started⟩ := s.startFrame_cases b
    · rwa [same]
    · rwa [started]
    · rwa [started]
    · rwa [started]
  case phyLinkRises =>
    intro s h
    unfold State.phyLinkRises
    dsimp only
    split
    · rename_i down
      exact Lmon.Agrees.testLinkPair h down
    · exact h
    · exact h
  case phyLinkFalls =>
    intro s h
    unfold State.phyLinkFalls
    dsimp only
    split
    · exact h
    · rename_i c e settling
      exact Or.inr (h.outside (by simp [settling]))
    · exact Or.inr (by simp)
  case takeMeasurement =>
    intro s cycles h
    unfold State.takeMeasurement
    split
    · refine Lmon.Agrees.actOnMeasurement (s := { s with lmon := { s.lmon with
          latest := some ⟨measurementOf cycles, s.time⟩
          intervalEnd := s.lmon.intervalEnd.after Config.measureIntervalUs } }) ?_ _
      exact h
    · exact h
  case settles =>
    intro s h
    unfold State.settles
    split
    · split
      · exact Or.inl ⟨_, by simp [State.entersUp]; rfl⟩
      · exact h
    · exact h
    · exact h
  case recenters =>
    intro s h
    unfold State.recenters
    dsimp only
    split
    · rename_i c up
      refine Or.inl ⟨c, ?_⟩
      unfold State.recentersInUp
      (repeat' split) <;> simpa using up
    · exact h
    · exact h
  case quarantineEnds =>
    intro s h
    unfold State.quarantineEnds
    split
    · rcases h with up | none
      · exact Or.inl up
      · exact Or.inr ⟨rfl, none.2⟩
    · exact h
  all_goals
    intros
    simpa

end Sys2Proof.Machine
end

/-! What the buffers hold, and what the templates may hold, through a step (R31, R68, R70). -/

section
namespace Sys2Proof.Machine

/-! ### Operations that leave the bytes of every buffer -/

/-- A buffer that changes its owner keeps its bytes. -/
theorem bytes_set_owner (pool : Vector Buffer 10) (i : Fin 10) (owner : Owner) :
    (pool.set i { pool[i] with owner := owner }).map Buffer.bytes = pool.map Buffer.bytes := by
  ext j hj : 1
  simp only [Vector.getElem_map, Vector.getElem_set]
  split
  · rename_i same
    subst same
    rfl
  · rfl

@[simp] theorem State.freeBuffer_bytes (s : State) (i : Fin 10) :
    (s.freeBuffer i).pool.map Buffer.bytes = s.pool.map Buffer.bytes := bytes_set_owner s.pool i .free

@[simp] theorem State.addRecord_bytes (s : State) (q : Word) (o : Offer) :
    (s.addRecord q o).pool.map Buffer.bytes = s.pool.map Buffer.bytes := by
  unfold State.addRecord
  split
  · exact bytes_set_owner s.pool _ .captured
  · rfl

@[simp] theorem State.takeCause_bytes (s : State) (o : Offer) :
    (s.takeCause o).pool.map Buffer.bytes = s.pool.map Buffer.bytes := by
  unfold State.takeCause
  (repeat' split) <;> simp

@[simp] theorem State.cutFrame_bytes (s : State) :
    s.cutFrame.pool.map Buffer.bytes = s.pool.map Buffer.bytes := by
  unfold State.cutFrame
  split <;> simp

@[simp] theorem State.flushReplies_bytes (rs : List QueuedReply) (s : State) :
    (s.flushReplies rs).pool.map Buffer.bytes = s.pool.map Buffer.bytes := by
  induction rs generalizing s with
  | nil => rfl
  | cons r rest ih => simp [State.flushReplies, ih]

@[simp] theorem State.flushWaiting_bytes (s : State) :
    s.flushWaiting.pool.map Buffer.bytes = s.pool.map Buffer.bytes := by
  unfold State.flushWaiting
  split <;> simp

@[simp] theorem State.switchToPart_bytes (s : State) (forced : Bool) :
    (s.switchToPart forced).pool.map Buffer.bytes = s.pool.map Buffer.bytes := by
  simp [State.switchToPart]

@[simp] theorem State.testWait_bytes (s : State) :
    s.testWait.pool.map Buffer.bytes = s.pool.map Buffer.bytes := by
  unfold State.testWait
  split <;> simp

@[simp] theorem State.leavingEnd_bytes (s : State) :
    s.leavingEnd.pool.map Buffer.bytes = s.pool.map Buffer.bytes := by
  simp [State.leavingEnd]

@[simp] theorem State.cutAndReport_bytes (s : State) :
    s.cutAndReport.pool.map Buffer.bytes = s.pool.map Buffer.bytes := by
  unfold State.cutAndReport
  split <;> simp

@[simp] theorem State.linkFlush_bytes (s : State) :
    s.linkFlush.pool.map Buffer.bytes = s.pool.map Buffer.bytes := by
  unfold State.linkFlush
  dsimp only
  split <;> simp

@[simp] theorem State.leaveUp_bytes (s : State) (dest : Link) :
    (s.leaveUp dest).pool.map Buffer.bytes = s.pool.map Buffer.bytes := by
  simp [State.leaveUp]

@[simp] theorem State.freeSlot_bytes (s : State) (k : Fin 2) :
    (s.freeSlot k).pool.map Buffer.bytes = s.pool.map Buffer.bytes := by
  unfold State.freeSlot
  split <;> simp

@[simp] theorem State.freeCaptureOf_bytes (s : State) (r : WakeRecord) :
    (s.freeCaptureOf r).pool.map Buffer.bytes = s.pool.map Buffer.bytes := by
  unfold State.freeCaptureOf
  split <;> simp

@[simp] theorem State.resetMember_bytes (s : State) (m : ScopeMember) :
    (s.resetMember m).pool.map Buffer.bytes = s.pool.map Buffer.bytes := by
  cases m <;> simp [State.resetMember, State.resetLogScope]

@[simp] theorem State.resetScopes_bytes (s : State) (scope : Byte) :
    (s.resetScopes scope).pool.map Buffer.bytes = s.pool.map Buffer.bytes :=
  State.resetScopes_preserves (P := fun u => u.pool.map Buffer.bytes = s.pool.map Buffer.bytes)
    (fun _ _ kept => by simpa using kept) s scope rfl

@[simp] theorem State.beginLeaving_bytes (s : State) :
    s.beginLeaving.pool.map Buffer.bytes = s.pool.map Buffer.bytes := by
  unfold State.beginLeaving
  dsimp only
  split <;> simp

@[simp] theorem State.endsTransmission_bytes (s : State) :
    s.endsTransmission.pool.map Buffer.bytes = s.pool.map Buffer.bytes := by
  have finished : s.finishHead.pool.map Buffer.bytes = s.pool.map Buffer.bytes := by
    unfold State.finishHead
    dsimp only
    split <;> simp
  unfold State.endsTransmission
  dsimp only
  (repeat' split) <;> simp [finished]

/-! ### Bytes that fit -/

/-- The templates stay, and each buffer keeps its bytes. -/
theorem BytesFit.of_same {s t : State} (templates : t.templates = s.templates)
    (bytes : t.pool.map Buffer.bytes = s.pool.map Buffer.bytes) (h : BytesFit s) : BytesFit t := by
  obtain ⟨fits, short⟩ := h
  refine ⟨fun id x defined => fits id x (by rwa [templates] at defined), fun i => ?_⟩
  have same : t.pool[i].bytes = s.pool[i].bytes := by
    simpa using congrArg (fun v : Vector (List Byte) 10 => v[i]) bytes
  rw [same]
  exact short i

/-- A buffer that is written holds no more than 256 bytes. -/
theorem BytesFit.of_setBuffer {s t : State} {i : Fin 10} {b : Buffer} (templates : t.templates = s.templates)
    (pool : t.pool = s.pool.set i b) (room : b.bytes.length ≤ Config.storedCapacity) (h : BytesFit s) :
    BytesFit t := by
  obtain ⟨fits, short⟩ := h
  refine ⟨fun id x defined => fits id x (by rwa [templates] at defined), fun j => ?_⟩
  rw [pool, Vector.get_set]
  split
  · exact room
  · exact short j

/-- Bytes written over a run, inside it, leave its length (R70). -/
theorem overwrite_length {run bytes : List Byte} {p : Nat} (inside : p + bytes.length ≤ run.length) :
    (overwrite run p bytes).length = run.length := by
  simp only [overwrite, List.length_append, List.length_take, List.length_drop]
  omega

/-- A copy operation takes as many bytes as it writes, the station address being six (R69, R70). -/
theorem CopyOp.taken_length (o : CopyOp) (frame : List Byte) {station : List Byte} (six : station.length = 6) :
    (o.taken frame station).length = o.width := by
  unfold CopyOp.taken CopyOp.width
  cases o.source with
  | frame => simp
  | station => exact six

/-- Operations that write inside the body leave its length (R70). -/
theorem foldl_apply_length (frame : List Byte) {station : List Byte} (six : station.length = 6) {n : Nat} :
    ∀ (ops : List CopyOp) (reply : List Byte), reply.length = n →
      (∀ o ∈ ops, o.dstOffset.toNat + o.width ≤ n) →
      (ops.foldl (fun reply o => o.apply frame station reply) reply).length = n := by
  intro ops
  induction ops with
  | nil => exact fun reply length _ => length
  | cons o ops ih =>
    intro reply length inside
    refine ih _ ?_ fun o' member => inside o' (List.mem_cons_of_mem o member)
    have here := inside o List.mem_cons_self
    have taken := CopyOp.taken_length o frame six
    unfold CopyOp.apply
    rw [overwrite_length (by rw [taken, length]; exact here), length]

/-- The reply of a template that fits is as long as its body (R70, R81). -/
theorem Template.build_length {t : Template} (fits : t.Fits) (frame : List Byte) {station : List Byte}
    (six : station.length = 6) : (t.build frame station).length = t.body.length := by
  obtain ⟨-, -, -, inside⟩ := fits
  exact foldl_apply_length frame six t.edits t.body rfl inside

/-- An operation that is admitted writes inside the body (R69). -/
theorem copyOpOf_inside {n : Nat} {q : Quad} {o : CopyOp} (admitted : copyOpOf n q = some o) :
    o.dstOffset.toNat + o.width ≤ n := by
  unfold copyOpOf at admitted
  split at admitted
  · cases admitted
  · rename_i source _
    cases source
    case frame =>
      simp only [Option.ite_none_right_eq_some, Option.some.injEq, Bool.and_eq_true, decide_eq_true_eq] at admitted
      obtain ⟨⟨_, inside⟩, rfl⟩ := admitted
      exact inside
    case station =>
      simp only [Option.ite_none_right_eq_some, Option.some.injEq, Bool.and_eq_true, beq_iff_eq, decide_eq_true_eq] at admitted
      obtain ⟨⟨⟨⟨_, length⟩, _⟩, inside⟩, rfl⟩ := admitted
      rw [length] at inside
      exact inside

/-- The operations of an admitted list are as many as were given, each inside the body (R69, R72). -/
theorem editListOf_inside {n : Nat} : ∀ {qs : List Quad} {ops : List CopyOp}, editListOf n qs = some ops →
    ops.length = qs.length ∧ ∀ o ∈ ops, o.dstOffset.toNat + o.width ≤ n
  | [], ops, admitted => by
    cases admitted
    simp
  | q :: qs, ops, admitted => by
    unfold editListOf at admitted
    split at admitted
    · rename_i o os first rest
      cases admitted
      obtain ⟨length, inside⟩ := editListOf_inside rest
      refine ⟨by simp [length], fun o' member => ?_⟩
      rcases List.mem_cons.mp member with rfl | member
      · exact copyOpOf_inside first
      · exact inside o' member
    · cases admitted

theorem bytesFit_keptByAnswers : KeptByAnswers BytesFit := by
  constructor
  case queueReply =>
    intro s i e t b frame _ template _ _ h
    have fits : t.Fits := h.1 _ t template
    have high : t.body.length ≤ 128 := fits.2.1
    have length := Template.build_length fits frame (station := s.factory.station.toList) (by simp)
    have claimed : BytesFit (s.setBuffer b ⟨.queued, []⟩) :=
      BytesFit.of_setBuffer (s := s) (i := b) rfl rfl (Nat.zero_le _) h
    refine BytesFit.of_setBuffer (s := s.setBuffer b ⟨.queued, []⟩) (i := b) rfl rfl ?_ claimed
    simp only [State.setBuffer_keeps, length, Config.storedCapacity]
    omega
  all_goals
    intros
    exact BytesFit.of_same rfl rfl ‹_›

theorem bytesFit_keptByRequests : KeptByRequests BytesFit := by
  constructor
  case resetScopes =>
    refine State.resetScopes_preserves fun s m h => ?_
    cases m
    case tables =>
      obtain ⟨fits, short⟩ := h
      refine ⟨fun id t defined => fits id t ?_, by simpa [State.resetMember] using short⟩
      simp only [State.resetMember, State.resetTablesScope, templatesAfterTablesReset, Fin.getElem_fin,
        Vector.getElem_ofFn] at defined
      split at defined
      · exact defined
      · cases defined
    all_goals refine h.of_same ?_ ?_ <;> simp [State.resetMember, State.resetLogScope]
  case setTemplate =>
    intro s id t form body low high count admitted h
    obtain ⟨fits, short⟩ := h
    obtain ⟨length, inside⟩ := editListOf_inside admitted
    refine ⟨fun id' x defined => ?_, short⟩
    rw [Vector.get_set] at defined
    split at defined
    · cases defined
      unfold Template.Fits
      rw [body]
      exact ⟨low, high, by omega, inside⟩
    · exact fits id' x defined
  case clearTemplate =>
    intro s id _ h
    obtain ⟨fits, short⟩ := h
    refine ⟨fun id' x defined => ?_, short⟩
    rw [Vector.get_set] at defined
    split at defined
    · cases defined
    · exact fits id' x defined
  all_goals
    intros
    refine BytesFit.of_same ?_ ?_ ‹_› <;> simp

theorem BytesFit.storeByte {s : State} (h : BytesFit s) (i : Fin 10) (b : Byte) : BytesFit (s.storeByte i b) := by
  unfold State.storeByte
  split
  · rename_i room
    refine BytesFit.of_setBuffer (s := s) (i := i) rfl rfl ?_ h
    simpa using room
  · exact h

theorem BytesFit.takeFrameByte {s : State} (h : BytesFit s) (b : Byte) : BytesFit (s.takeFrameByte b) := by
  unfold State.takeFrameByte
  split
  · refine BytesFit.storeByte ?_ _ _
    exact h
  all_goals exact h

theorem bytesFit_keptByEvents : KeptByEvents BytesFit := by
  constructor
  case runRequest =>
    intro s kind body requests h
    exact bytesFit_keptByRequests.run s kind body requests h
  case coldReset =>
    intro s fast _
    exact ⟨fun id t defined => by simp [State.coldReset, State.coldStart] at defined,
      fun i => by simp [State.coldReset, State.coldStart, poolCold]⟩
  case supplySwitchReset =>
    intro s us fast h
    obtain ⟨-, -, -, pool, -⟩ := s.supplySwitchReset_settles us fast
    exact ⟨fun id t defined => h.1 id t (by simpa using defined), fun i => by simp [pool, poolCold]⟩
  case startFrame =>
    intro s b h
    obtain same | ⟨-, f, started⟩ | ⟨-, i, f, -, started⟩ | ⟨-, f, started⟩ := s.startFrame_cases b
    · rwa [same]
    · rw [started]
      exact h
    · rw [started]
      exact BytesFit.of_setBuffer (s := s) (i := i) rfl rfl (by simp [Config.storedCapacity]) h
    · rw [started]
      exact h
  case takeFrameByte => exact fun s b h => h.takeFrameByte b
  case endFrame =>
    intro s partialByte h
    exact State.endFrame_preserves (fun _ h => h.of_same rfl rfl) (fun _ _ h => h.of_same rfl rfl)
      (fun _ _ h => h.of_same rfl rfl)
      (fun s b n _ h => State.walk_preserves bytesFit_keptByAnswers (fun _ _ h => h.of_same rfl rfl)
        (fun _ _ _ h => h.of_same (by simp) (by simp)) (fun _ h => h.of_same (by simp) (by simp)) s n h)
      (fun _ _ h => h.of_same (by simp) (by simp)) (fun _ h => h.of_same (by simp) (by simp)) s partialByte h
  case hostTxFalls => exact fun s h => h.of_same (by simp) (by simp [State.hostTxFalls])
  case handoverDeadline =>
    intro s h
    unfold State.handoverDeadlineExpires
    split
    · exact h.of_same (by simp) (by simp)
    · exact h
  case verifyPassEnds =>
    intro s h
    have judged : BytesFit s.judged := by
      unfold State.judged
      split <;> refine h.of_same ?_ ?_ <;> simp
    rw [State.verifyPassEnds_eq]
    split
    · split
      · exact judged.of_same (by simp) (by simp)
      · exact judged
    · exact h
  case phyLinkFalls =>
    intro s h
    unfold State.phyLinkFalls
    dsimp only
    split
    · exact h
    · exact h
    · exact h.of_same (by simp) (by simp)
  case takeMeasurement =>
    intro s cycles h
    exact State.takeMeasurement_preserves (fun _ _ h => h.of_same rfl rfl) (fun _ _ h => h.of_same rfl rfl)
      (fun _ _ h => h.of_same (by simp) (by simp)) s cycles h
  case settles =>
    intro s h
    unfold State.settles
    split
    · split
      · exact h.of_same (by simp) (by simp [State.entersUp])
      · exact h
    · exact h
    · exact h
  case recenters =>
    intro s h
    exact State.recenters_preserves (fun _ _ _ h => h.of_same rfl rfl) (fun _ h => h.of_same rfl rfl)
      (fun _ _ h => h.of_same rfl rfl) (fun _ h => h.of_same (by simp) (by simp)) s h
  case alarmExpires =>
    intro s n h
    unfold State.alarmExpires
    split
    · exact h.of_same (by simp) (by simp [State.announceExpiry])
    · exact h
  all_goals
    intros
    refine BytesFit.of_same ?_ ?_ ‹_› <;> simp

end Sys2Proof.Machine
end

/-! The descriptor's items through a step (R107), and O58. -/

section
namespace Sys2Proof.Machine

/-- The descriptor's items agree with its state, and the store holds no position past its end (R107). -/
structure Desc.Agrees (d : Desc) : Prop where
  holdDown : d.holdDownEnd.isSome = true ↔ d.state = .holddown
  transaction : d.transaction.isSome = true → d.state = .published
  deferred : d.deferred ≠ .none → d.transaction.isSome = true
  pass : d.passLatest.isSome = true ↔ d.state.inPass = true
  published : d.published ≤ 8
  passCount : d.passCount ≤ 8
  inside : ∀ cell ∈ d.store, cell.1 < Config.storeSize

theorem descAgrees_iff (s : State) : DescAgrees s ↔ s.desc.Agrees := by
  constructor
  · rintro ⟨holdDown, transaction, deferred, pass, published, passCount, inside⟩
    exact ⟨holdDown, transaction, deferred, pass, published, passCount, inside⟩
  · rintro ⟨holdDown, transaction, deferred, pass, published, passCount, inside⟩
    exact ⟨holdDown, transaction, deferred, pass, published, passCount, inside⟩

section
variable {d : Desc}

theorem Desc.Agrees.no_holdDown (h : d.Agrees) (other : d.state ≠ .holddown) : d.holdDownEnd = none := by
  rw [← Option.not_isSome_iff_eq_none, h.holdDown]
  exact other

theorem Desc.Agrees.no_transaction (h : d.Agrees) (other : d.state ≠ .published) : d.transaction = none := by
  rw [← Option.not_isSome_iff_eq_none]
  exact fun some => other (h.transaction some)

theorem Desc.Agrees.no_deferred (h : d.Agrees) (ended : d.transaction = none) : d.deferred = .none := by
  by_contra waits
  simpa [ended] using h.deferred waits

theorem Desc.Agrees.no_pass (h : d.Agrees) (other : d.state.inPass = false) : d.passLatest = none := by
  rw [← Option.not_isSome_iff_eq_none, h.pass, other]
  exact Bool.false_ne_true

/-- EDITING is entered from any state once the hold-down, the transaction and the pass are over (R112, R113). -/
theorem Desc.Agrees.editing (h : d.Agrees) (ended : d.transaction = none) (noPass : d.passLatest = none)
    (low : Time) (page : Fin 4) (offset : Byte) : Desc.Agrees { d with
      state := .editing, holdDownEnd := none, readyLow := low, page := page, readOffset := offset } where
  holdDown := by simp
  transaction := by simp [ended]
  deferred := by simp [h.no_deferred ended]
  pass := by simp [noPass, DescState.inPass]
  published := h.published
  passCount := h.passCount
  inside := h.inside

/-- CLEARING is entered from any state once the transaction is over (R127, R128). -/
theorem Desc.Agrees.clearing (h : d.Agrees) (ended : d.transaction = none) (low : Time) (page : Fin 4) (offset : Byte)
    (latest : Nat) : Desc.Agrees { d with
      state := .clearing, holdDownEnd := none, passLatest := some latest, readyLow := low, page := page
      readOffset := offset } where
  holdDown := by simp
  transaction := by simp [ended]
  deferred := by simp [h.no_deferred ended]
  pass := by simp [DescState.inPass]
  published := h.published
  passCount := h.passCount
  inside := h.inside

/-- In PUBLISHED a transaction may stand, begin and go on; what the bus drives is free (R120 to R123). -/
theorem Desc.Agrees.onBus (h : d.Agrees) (state : d.state = .published) (t : Transaction) (bus : BusWait)
    (sda : SdaDrive) (page : Fin 4) (offset : Byte) : Desc.Agrees { d with
      bus := bus, transaction := some t, sda := sda, page := page, readOffset := offset } where
  holdDown := h.holdDown
  transaction := fun _ => state
  deferred := fun _ => rfl
  pass := h.pass
  published := h.published
  passCount := h.passCount
  inside := h.inside

/-- What is awaited and driven on the bus rests on nothing else. -/
theorem Desc.Agrees.setBus (h : d.Agrees) (bus : BusWait) (sda : SdaDrive) :
    Desc.Agrees { d with bus := bus, sda := sda } :=
  ⟨h.holdDown, h.transaction, h.deferred, h.pass, h.published, h.passCount, h.inside⟩

/-- The hold-down is applied at the end of a pass (R118). -/
theorem Desc.Agrees.applyHoldDown {s : State} (ended : s.desc.transaction = none) (waits : s.desc.deferred = .none)
    (noPass : s.desc.passLatest = none) (published : s.desc.published ≤ 8) (passCount : s.desc.passCount ≤ 8)
    (inside : ∀ cell ∈ s.desc.store, cell.1 < Config.storeSize) : s.applyHoldDown.desc.Agrees := by
  unfold State.applyHoldDown
  split
  · exact ⟨by simp, by simp [ended], by simp [waits], by simp [noPass, DescState.inPass], published, passCount, inside⟩
  · exact ⟨by simp, by simp [ended], by simp [waits], by simp [noPass, DescState.inPass], published, passCount, inside⟩

end

/-! ### Requests -/

theorem Desc.Agrees.resetDescriptorScope {s : State} (h : s.desc.Agrees) : s.resetDescriptorScope.desc.Agrees := by
  unfold State.resetDescriptorScope
  split
  case h_1 => exact h
  case h_2 => exact h
  case h_8 state =>
    split
    · rename_i ended
      exact h.clearing ended _ _ _ _
    · rename_i t transaction
      exact ⟨h.holdDown, h.transaction, fun _ => by simp [transaction], h.pass, h.published, h.passCount, h.inside⟩
  all_goals
    rename_i state
    exact h.clearing (h.no_transaction (by simp [state])) _ _ _ _

theorem descAgrees_keptByRequests : KeptByRequests fun s => s.desc.Agrees := by
  constructor
  case resetScopes =>
    intro s scope h
    refine State.resetScopes_preserves (P := fun u => u.desc.Agrees) (fun u m hu => ?_) s scope h
    cases m
    case descriptor => exact hu.resetDescriptorScope
    all_goals simpa [State.resetMember] using hu
  case openIdle =>
    intro s state h
    have noHold : s.desc.holdDownEnd = none := h.no_holdDown (by rcases state with e | e <;> simp [e])
    have opened := h.editing (h.no_transaction (by rcases state with e | e <;> simp [e]))
      (h.no_pass (by rcases state with e | e <;> simp [e, DescState.inPass])) s.desc.readyLow s.desc.page
      s.desc.readOffset
    rw [← noHold] at opened
    exact opened
  case openHoldDown =>
    intro s state h
    exact h.editing (h.no_transaction (by simp [state])) (h.no_pass (by simp [state, DescState.inPass])) _ _ _
  case openPublished =>
    intro s state ended h
    have noHold : s.desc.holdDownEnd = none := h.no_holdDown (by simp [state])
    have opened := h.editing ended (h.no_pass (by simp [state, DescState.inPass])) s.time 0 0
    rw [← noHold] at opened
    exact opened
  case deferOpen =>
    intro s t state transaction h
    exact ⟨h.holdDown, h.transaction, fun _ => by simp [transaction], h.pass, h.published, h.passCount, h.inside⟩
  case writeStore =>
    intro s offset bytes range h
    obtain ⟨_, _, fits⟩ := (descRange_iff _ _).mp range
    exact ⟨h.holdDown, h.transaction, h.deferred, h.pass, h.published, h.passCount,
      Memory.writeRun_inside bytes fits h.inside⟩
  case beginPublish =>
    intro s n high editing h
    have ended := h.no_transaction (by simp [editing])
    exact ⟨by simp [h.no_holdDown (by simp [editing])], by simp [ended], by simp [h.no_deferred ended],
      by simp [DescState.inPass], h.published, high, h.inside⟩
  all_goals
    intros
    simpa

/-! ### Events -/

/-- The end of a transaction leaves PUBLISHED for the request that waits, if one does (R113, R124, R125, R128). -/
theorem Desc.Agrees.endTransaction {s : State} (h : s.desc.Agrees) : s.endTransaction.desc.Agrees := by
  have after : ∀ state holdDownEnd passLatest, (holdDownEnd.isSome = true ↔ state = DescState.holddown) →
      (passLatest.isSome = true ↔ state.inPass = true) → ∀ low page offset, Desc.Agrees { s.desc with
        bus := .nothing, transaction := none, sda := .released, deferred := .none, state := state
        holdDownEnd := holdDownEnd, passLatest := passLatest, readyLow := low, page := page, readOffset := offset } :=
    fun _ _ _ hold pass _ _ _ => ⟨hold, by simp, by simp, pass, h.published, h.passCount, h.inside⟩
  unfold State.endTransaction State.takeDeferred
  cases waits : s.desc.deferred with
  | none =>
    have kept := after s.desc.state s.desc.holdDownEnd s.desc.passLatest h.holdDown h.pass s.desc.readyLow s.desc.page
      s.desc.readOffset
    rw [← waits] at kept
    exact kept
  | descOpen =>
    have state : s.desc.state = .published := h.transaction (h.deferred (by simp [waits]))
    simp only [State.respond_keeps, State.leavePublished_desc]
    exact after _ _ _ (by simp [h.no_holdDown (by simp [state])])
      (by simp [h.no_pass (by simp [state, DescState.inPass]), DescState.inPass]) _ _ _
  | reset => exact after _ _ _ (by simp) (by simp [DescState.inPass]) _ _ _

theorem Desc.Agrees.takeAddress {s : State} (h : s.desc.Agrees) (b : Byte) : (s.takeAddress b).desc.Agrees := by
  unfold State.takeAddress
  split
  · exact h
  · split
    · exact h.setBus _ _
    · split
      · rename_i free
        simp only [Bool.and_eq_true, beq_iff_eq] at free
        exact h.onBus free.1 _ _ _ _ _
      · exact h.setBus _ _
  · split
    · exact h.setBus _ _
    · rename_i t transaction
      have state : s.desc.state = .published := h.transaction (by simp [transaction])
      dsimp only
      split
      · exact h.onBus state _ _ _ _ _
      · split
        · exact h.onBus state _ _ _ _ _
        · exact h.setBus _ _

/-- A segment of a transaction stands in PUBLISHED alone (R107). -/
theorem Desc.Agrees.published_of_segment {d : Desc} {target : SbTarget} {reading : Bool} {t : Transaction}
    (h : d.Agrees) (segment : d.segment target reading = some t) : d.state = .published := by
  unfold Desc.segment at segment
  split at segment
  · rename_i transaction
    exact h.transaction (by simp [transaction])
  · cases segment

theorem descAgrees_keptByEvents : KeptByEvents fun s => s.desc.Agrees := by
  constructor
  case runRequest =>
    intro s kind body requests h
    exact descAgrees_keptByRequests.run s kind body requests h
  case coldReset =>
    intro s fast _
    rw [← descAgrees_iff]
    simp [DescAgrees, State.coldReset, State.coldStart, Desc.cold, DescState.inPass]
  case supplySwitchReset =>
    intro s us fast h
    obtain ⟨-, -, -, -, -, -, desc, -⟩ := s.supplySwitchReset_settles us fast
    rw [desc]
    unfold State.descAfterSupplySwitch
    refine ⟨?_, by simp, by simp, ?_, h.published, Nat.zero_le _, ?_⟩
    · cases state : s.desc.state <;> simp [state]
    · cases state : s.desc.state <;> simp [state, State.passLatestAfterReset, DescState.inPass]
    · dsimp only
      split
      · exact sumSections_inside _ (Nat.le_trans (Nat.le_of_lt_succ (Nat.mod_lt _ (Nat.succ_pos _))) h.passCount)
          h.inside
      · exact h.inside
  case checksumPassEnds =>
    intro s h
    unfold State.checksumPassEnds
    split
    · rename_i state
      simp only [beq_iff_eq] at state
      have ended := h.no_transaction (by simp [state])
      simp only [State.respond_keeps]
      exact Desc.Agrees.applyHoldDown ended (h.no_deferred ended) rfl h.passCount (Nat.zero_le _)
        (sumSections_inside _ h.passCount h.inside)
    · exact h
  case holdDownEnds =>
    intro s h
    unfold State.holdDownEnds
    split
    · rename_i due
      simp only [State.holdDownDue, Bool.and_eq_true, beq_iff_eq] at due
      obtain ⟨state, -⟩ := due
      have ended := h.no_transaction (by simp [state])
      exact ⟨by simp, by simp [ended], by simp [h.no_deferred ended],
        by simp [h.no_pass (by simp [state, DescState.inPass]), DescState.inPass], h.published, h.passCount, h.inside⟩
    · exact h
  case clearingPassEnds =>
    intro s h
    unfold State.clearingPassEnds
    split
    · rename_i state
      simp only [beq_iff_eq] at state
      have ended := h.no_transaction (by simp [state])
      have emptied : Desc.Agrees { s.desc with store := [], state := .empty, published := 0, passLatest := none } :=
        ⟨by simp [h.no_holdDown (by simp [state])], by simp [ended], by simp [h.no_deferred ended],
          by simp [DescState.inPass], Nat.zero_le _, h.passCount, by simp⟩
      dsimp only
      (repeat' split) <;> simpa using emptied
    · exact h
  case verifyPassEnds =>
    intro s h
    rw [State.verifyPassEnds_eq]
    split
    · rename_i state
      have ended := h.no_transaction (by simp [state])
      have judged : s.judged.desc.Agrees := by
        unfold State.judged
        split
        · exact Desc.Agrees.applyHoldDown ended (h.no_deferred ended) rfl h.published h.passCount h.inside
        · simp only [State.takeCause_keeps, State.raise_keeps]
          exact ⟨by simp [h.no_holdDown (by simp [state])], by simp [ended], by simp [h.no_deferred ended],
            by simp [DescState.inPass], h.published, h.passCount, h.inside⟩
      split
      · exact judged.resetDescriptorScope
      · exact judged
    · exact h
  case busStarts =>
    intro s h
    unfold State.busStarts
    split
    · exact h.setBus _ _
    · exact h.setBus _ _
  case takeAddress => exact fun s b h => h.takeAddress b
  case writePage =>
    intro s b h
    unfold State.writePage
    split
    · exact h
    · rename_i segment
      dsimp only
      split
      · exact h.onBus (h.published_of_segment segment) _ _ _ _ _
      · exact h.onBus (h.published_of_segment segment) _ _ _ _ _
  case readPage =>
    intro s ack h
    unfold State.readPage
    split
    · exact h
    · rename_i segment
      split
      · exact h.setBus _ _
      · exact h.onBus (h.published_of_segment segment) _ _ _ _ _
  case writeOffset =>
    intro s b h
    unfold State.writeOffset
    split
    · exact h
    · rename_i segment
      dsimp only
      split
      · exact h.onBus (h.published_of_segment segment) _ _ _ _ _
      · exact h.onBus (h.published_of_segment segment) _ _ _ _ _
  case readDescriptor =>
    intro s ack h
    unfold State.readDescriptor
    split
    · exact h
    · rename_i segment
      split
      · exact h.setBus _ _
      · exact h.onBus (h.published_of_segment segment) _ _ _ _ _
  case busStops =>
    intro s h
    unfold State.busStops
    split
    · exact h
    · refine Desc.Agrees.endTransaction ?_
      split <;> exact h
  case sidebandStalls =>
    intro s h
    unfold State.sidebandStalls
    split
    · exact h.endTransaction
    · exact h
  all_goals
    intros
    simpa

/-! ### O58 -/

/-- Settles O58: each item is kept by every operation that a step is made of. -/
theorem stepKeepsHostItems : Obligations.StepKeepsHostItems := by
  intro s t taken
  simp only [settingsInRange_iff, noticesOfSetFlags_iff, linkAgrees_iff, descAgrees_iff]
  exact ⟨settingsInRange_keptByEvents.step s t taken, noticesAgree_keptByEvents.step s t taken,
    linkAgrees_keptByEvents.step s t taken, executingHasRequest_keptByLink.events.step s t taken,
    bytesFit_keptByEvents.step s t taken, descAgrees_keptByEvents.step s t taken⟩

end Sys2Proof.Machine
end

/-! The presence controller, the transmit queue and the transmitter through a step (R1, R80, R81, R90), and O59. -/

section
namespace Sys2Proof.Machine

/-! ### What stands together -/

/-- PRC's items agree with its state, and with them what the transmit queue and the transmitter may hold in the states
where the line is not the part's to use, and in LEAVING (R1, R16, R81, R90). -/
structure LineAgrees (s : State) : Prop where
  deadline : s.prc.handoverDeadline.isSome = true ↔ s.prc.presence = .entering
  wakeAck : s.prc.wakeAckTimer.isSome = true ↔
    s.prc.presence = .waking ∨ (s.prc.presence = .escalated ∧ s.prc.escalations = 1)
  pulse : s.prc.pulseEnd.isSome = true → s.prc.presence = .escalated
  handover : s.prc.pendingResponse = .handover ↔ s.prc.presence = .entering
  reclaim : s.prc.pendingResponse = .reclaim ↔ s.prc.presence = .leaving
  escalated : s.prc.presence = .escalated → s.prc.escalations ≠ 0
  escalations : s.prc.escalations ≠ 0 → s.prc.presence = .escalated ∨ s.prc.presence = .leaving
  quiet : s.prc.presence = .passive ∨ s.prc.presence = .entering → s.txq.queue = [] ∧ s.phyTxen = false
  leaving : s.prc.presence = .leaving → s.txq.queue.length = 1 ∧ s.phyTxen = true

/-- A transmission is of the head of the queue, on a link that is UP (R80, R82). -/
def SendingAgrees (s : State) : Prop := s.phyTxen = true → s.txq.queue ≠ [] ∧ ∃ c, s.lmon.link = .up c

/-- What O59 says is kept. -/
def PresenceAgrees (s : State) : Prop := LineAgrees s ∧ SendingAgrees s

theorem presenceAgrees_iff (s : State) : PrcAgrees s ∧ TransmitAgrees s ↔ PresenceAgrees s := by
  constructor
  · rintro ⟨⟨deadline, wakeAck, pulse, handover, reclaim, escalated, escalations⟩, quiet, leaving, sending⟩
    exact ⟨⟨deadline, wakeAck, pulse, handover, reclaim, escalated, escalations, quiet, leaving⟩, sending⟩
  · rintro ⟨⟨deadline, wakeAck, pulse, handover, reclaim, escalated, escalations, quiet, leaving⟩, sending⟩
    exact ⟨⟨deadline, wakeAck, pulse, handover, reclaim, escalated, escalations⟩, quiet, leaving, sending⟩

theorem State.phyTxen_of_txq {s t : State} (same : t.txq = s.txq) : t.phyTxen = s.phyTxen := by
  unfold State.phyTxen
  rw [same]

/-- A gap is no transmission (R84). -/
theorem State.phyTxen_of_gapFromNow {s u : State} (gap : s.txq.transmitter = u.gapFromNow) : s.phyTxen = false := by
  unfold State.phyTxen
  rw [gap]
  unfold State.gapFromNow
  cases u.lmon.link <;> rfl

section
variable {s t : State}

theorem LineAgrees.of_same (h : LineAgrees s) (prc : t.prc = s.prc) (txq : t.txq = s.txq) : LineAgrees t := by
  have sending := State.phyTxen_of_txq txq
  constructor
  all_goals
    rw [prc]
    try rw [txq, sending]
  exacts [h.deadline, h.wakeAck, h.pulse, h.handover, h.reclaim, h.escalated, h.escalations, h.quiet, h.leaving]

theorem SendingAgrees.of_same (h : SendingAgrees s) (txq : t.txq = s.txq) (link : t.lmon.link = s.lmon.link) :
    SendingAgrees t := by
  unfold SendingAgrees
  rw [State.phyTxen_of_txq txq, txq, link]
  exact h

theorem PresenceAgrees.of_same (h : PresenceAgrees s) (prc : t.prc = s.prc) (txq : t.txq = s.txq)
    (link : t.lmon.link = s.lmon.link) : PresenceAgrees t :=
  ⟨h.1.of_same prc txq, h.2.of_same txq link⟩

theorem SendingAgrees.of_silent (silent : s.phyTxen = false) : SendingAgrees s := by
  intro sending
  simp [silent] at sending

/-- Outside UP nothing is being sent (R82, R86). -/
theorem SendingAgrees.silent (h : SendingAgrees s) (outside : ∀ c, s.lmon.link ≠ .up c) : s.phyTxen = false := by
  by_contra sending
  obtain ⟨-, c, up⟩ := h (by simpa using sending)
  exact outside c up

/-- Outside ESCALATED and LEAVING the escalation count is 0 (R1, R13). -/
theorem LineAgrees.no_escalations (h : LineAgrees s) (notEscalated : s.prc.presence ≠ .escalated)
    (notLeaving : s.prc.presence ≠ .leaving) : s.prc.escalations = 0 := by
  by_contra count
  rcases h.escalations count with e | e
  · exact notEscalated e
  · exact notLeaving e

theorem LineAgrees.no_pulse (h : LineAgrees s) (other : s.prc.presence ≠ .escalated) : s.prc.pulseEnd = none := by
  rw [← Option.not_isSome_iff_eq_none]
  exact fun pulse => other (h.pulse pulse)

theorem LineAgrees.no_deadline (h : LineAgrees s) (other : s.prc.presence ≠ .entering) :
    s.prc.handoverDeadline = none := by
  rw [← Option.not_isSome_iff_eq_none, h.deadline]
  exact other

theorem LineAgrees.no_wakeAck (h : LineAgrees s) (notWaking : s.prc.presence ≠ .waking)
    (notEscalated : s.prc.presence ≠ .escalated) : s.prc.wakeAckTimer = none := by
  rw [← Option.not_isSome_iff_eq_none, h.wakeAck]
  simp [notWaking, notEscalated]

theorem LineAgrees.no_pending (h : LineAgrees s) (notEntering : s.prc.presence ≠ .entering)
    (notLeaving : s.prc.presence ≠ .leaving) : s.prc.pendingResponse = .none := by
  have handover := h.handover.not.mpr notEntering
  have reclaim := h.reclaim.not.mpr notLeaving
  cases pending : s.prc.pendingResponse <;> simp_all

/-- PROXY and WAKING put no condition on the queue: PRC's items are all that is needed. -/
theorem LineAgrees.of_proxy (presence : t.prc.presence = .proxy) (deadline : t.prc.handoverDeadline = none)
    (wakeAck : t.prc.wakeAckTimer = none) (pulse : t.prc.pulseEnd = none) (pending : t.prc.pendingResponse = .none)
    (escalations : t.prc.escalations = 0) : LineAgrees t := by
  constructor <;> simp [presence, deadline, wakeAck, pulse, pending, escalations]

theorem LineAgrees.of_waking {timer : Nat} (presence : t.prc.presence = .waking)
    (deadline : t.prc.handoverDeadline = none) (wakeAck : t.prc.wakeAckTimer = some timer)
    (pulse : t.prc.pulseEnd = none) (pending : t.prc.pendingResponse = .none) (escalations : t.prc.escalations = 0) :
    LineAgrees t := by
  constructor <;> simp [presence, deadline, wakeAck, pulse, pending, escalations]

/-- PASSIVE wants an empty queue and a transmitter that does not send (R90). -/
theorem LineAgrees.of_passive (presence : t.prc.presence = .passive) (deadline : t.prc.handoverDeadline = none)
    (wakeAck : t.prc.wakeAckTimer = none) (pulse : t.prc.pulseEnd = none) (pending : t.prc.pendingResponse = .none)
    (escalations : t.prc.escalations = 0) (empty : t.txq.queue = []) (silent : t.phyTxen = false) : LineAgrees t := by
  constructor <;> simp [presence, deadline, wakeAck, pulse, pending, escalations, empty, silent]

/-- LEAVING wants the reply in transmission alone in the queue (R16). -/
theorem LineAgrees.of_leaving (presence : t.prc.presence = .leaving) (deadline : t.prc.handoverDeadline = none)
    (wakeAck : t.prc.wakeAckTimer = none) (pulse : t.prc.pulseEnd = none) (pending : t.prc.pendingResponse = .reclaim)
    (one : t.txq.queue.length = 1) (sending : t.phyTxen = true) : LineAgrees t := by
  constructor <;> simp [presence, deadline, wakeAck, pulse, pending, one, sending]

/-! ### The shared operations -/

theorem LineAgrees.takeCause (h : LineAgrees s) (o : Offer) : LineAgrees (s.takeCause o) := by
  have prc := s.takeCause_prc o
  split at prc
  · rename_i woken
    obtain ⟨-, proxy⟩ := woken
    refine LineAgrees.of_waking (by rw [prc]) ?_ (by rw [prc]) ?_ ?_ (by rw [prc])
    · rw [prc]
      exact h.no_deadline (by simp [proxy])
    · rw [prc]
      exact h.no_pulse (by simp [proxy])
    · rw [prc]
      exact h.no_pending (by simp [proxy]) (by simp [proxy])
  · exact h.of_same prc (by simp)

theorem PresenceAgrees.takeCause (h : PresenceAgrees s) (o : Offer) : PresenceAgrees (s.takeCause o) :=
  ⟨h.1.takeCause o, h.2.of_same (by simp) (by simp)⟩

/-- The switch at the end of ENTERING: PROXY, with the transmitter in a gap or IDLE (R6, R7). -/
theorem PresenceAgrees.switchToPart (h : LineAgrees s) (entering : s.prc.presence = .entering) (forced : Bool) :
    PresenceAgrees (s.switchToPart forced) := by
  have noPulse := h.no_pulse (by simp [entering])
  constructor
  · unfold State.switchToPart
    exact LineAgrees.of_proxy (by simp) (by simp) (by simp) (by simpa using noPulse) (by simp) (by simp)
  · unfold State.switchToPart
    exact SendingAgrees.of_silent (State.phyTxen_of_gapFromNow (u := s.cutFrame) (by simp))

theorem LineAgrees.testWait (h : LineAgrees s) : LineAgrees s.testWait := by
  unfold State.testWait
  split
  · rename_i clear
    simp only [Bool.and_eq_true, beq_iff_eq] at clear
    exact (PresenceAgrees.switchToPart h clear.1.1 false).1
  · exact h

theorem PresenceAgrees.testWait (h : PresenceAgrees s) : PresenceAgrees s.testWait := by
  unfold State.testWait
  split
  · rename_i clear
    simp only [Bool.and_eq_true, beq_iff_eq] at clear
    exact PresenceAgrees.switchToPart h.1 clear.1.1 false
  · exact h

theorem LineAgrees.cutAndReport (h : LineAgrees s) : LineAgrees s.cutAndReport := by
  unfold State.cutAndReport
  split
  · exact (h.of_same (by simp) (by simp)).testWait
  · exact h

theorem PresenceAgrees.cutAndReport (h : PresenceAgrees s) : PresenceAgrees s.cutAndReport := by
  unfold State.cutAndReport
  split
  · exact (h.of_same (by simp) (by simp) (by simp)).testWait
  · exact h

/-- The end of LEAVING, once its reply is gone: PASSIVE (R16). -/
theorem PresenceAgrees.leavingEnd (deadline : s.prc.handoverDeadline = none)
    (wakeAck : s.prc.wakeAckTimer = none) (pulse : s.prc.pulseEnd = none) (empty : s.txq.queue = [])
    (silent : s.phyTxen = false) : PresenceAgrees s.leavingEnd := by
  have still : s.leavingEnd.phyTxen = false := by
    rw [State.phyTxen_of_txq (s := s) (by simp), silent]
  refine ⟨LineAgrees.of_passive ?_ ?_ ?_ ?_ ?_ ?_ (by simpa using empty) still, SendingAgrees.of_silent still⟩
  all_goals simp [State.leavingEnd, deadline, wakeAck, pulse]

/-- The link leaving UP empties the queue; a transmission cut in LEAVING ends LEAVING (R17, R86). -/
theorem PresenceAgrees.linkFlush (h : LineAgrees s) : PresenceAgrees s.linkFlush := by
  have silent : SendingAgrees s.linkFlush := by
    refine SendingAgrees.of_silent ?_
    rw [State.phyTxen_of_txq (s := { s with txq := Txq.cold }) (by simp)]
    rfl
  refine ⟨?_, silent⟩
  unfold State.linkFlush
  dsimp only
  split
  · rename_i cut
    simp only [Bool.and_eq_true, beq_iff_eq] at cut
    have leaving := cut.2
    refine (PresenceAgrees.leavingEnd ?_ ?_ ?_ ?_ ?_).1
    · simpa using h.no_deadline (by simp [leaving])
    · simpa using h.no_wakeAck (by simp [leaving]) (by simp [leaving])
    · simpa using h.no_pulse (by simp [leaving])
    · simp [Txq.cold]
    · rw [State.phyTxen_of_txq (s := { s with txq := Txq.cold }) (by simp)]
      rfl
  · rename_i other
    have notLeaving : s.prc.presence ≠ .leaving := by
      intro leaving
      simp [leaving, (h.leaving leaving).2] at other
    have flushed : (({ s with txq := Txq.cold } : State).flushReplies s.txq.queue).phyTxen = false := by
      rw [State.phyTxen_of_txq (s := { s with txq := Txq.cold }) (by simp)]
      rfl
    constructor
    all_goals simp only [State.flushReplies_keeps]
    exacts [h.deadline, h.wakeAck, h.pulse, h.handover, h.reclaim, h.escalated, h.escalations,
      fun _ => ⟨rfl, flushed⟩, fun leaving => absurd leaving notLeaving]

theorem PresenceAgrees.leaveUp (h : LineAgrees s) (dest : Link) : PresenceAgrees (s.leaveUp dest) := by
  unfold State.leaveUp
  refine PresenceAgrees.linkFlush (LineAgrees.cutAndReport (LineAgrees.takeCause ?_ _))
  exact h.of_same rfl rfl

end

/-! ### Requests -/

/-- PRC as RECLAIM in a proxy state leaves it (R15). -/
def State.withdrawing (s : State) : State :=
  { s with prc := { s.prc with
      presence := .leaving, wakeAckTimer := none, pulseEnd := none, pendingResponse := .reclaim } }

theorem State.flushWaiting_phyTxen (s : State) : s.flushWaiting.phyTxen = s.phyTxen := by
  unfold State.phyTxen
  rw [State.flushWaiting_txq]

/-- With a reply in transmission RECLAIM waits for its end, else LEAVING ends at once (R15, R16). -/
theorem State.beginLeaving_eq (s : State) : s.beginLeaving =
    if s.phyTxen then s.withdrawing.flushWaiting else s.withdrawing.flushWaiting.leavingEnd := by
  have same : s.withdrawing.flushWaiting.phyTxen = s.phyTxen := State.flushWaiting_phyTxen _
  rw [← same]
  rfl

/-- RECLAIM in a proxy state: the reply in transmission stays alone in the queue, or LEAVING ends at once (R15, R16). -/
theorem PresenceAgrees.beginLeaving {s : State} (h : PresenceAgrees s) (proxy : s.prc.presence.isProxy = true) :
    PresenceAgrees s.beginLeaving := by
  obtain ⟨line, sending⟩ := h
  have noDeadline : s.prc.handoverDeadline = none := line.no_deadline fun entering => by
    simp [entering, Presence.isProxy] at proxy
  have flushed : s.withdrawing.flushWaiting.txq = { s.txq with queue := if s.phyTxen then s.txq.queue.take 1 else [] } :=
    State.flushWaiting_txq _
  have same : s.withdrawing.flushWaiting.phyTxen = s.phyTxen := State.flushWaiting_phyTxen _
  rw [State.beginLeaving_eq]
  split
  · rename_i busy
    have queue : s.withdrawing.flushWaiting.txq.queue = s.txq.queue.take 1 := by rw [flushed, if_pos busy]
    obtain ⟨nonempty, up⟩ := sending busy
    have one : s.withdrawing.flushWaiting.txq.queue.length = 1 := by
      have := List.length_pos_iff.mpr nonempty
      rw [queue, List.length_take]
      omega
    refine ⟨LineAgrees.of_leaving (by simp [State.withdrawing]) (by simpa [State.withdrawing] using noDeadline)
      (by simp [State.withdrawing]) (by simp [State.withdrawing]) (by simp [State.withdrawing]) one
      (by rw [same, busy]), fun _ => ⟨fun none => ?_, by simpa [State.withdrawing] using up⟩⟩
    rw [none] at one
    cases one
  · rename_i silent
    rw [if_neg silent] at flushed
    exact PresenceAgrees.leavingEnd (by simpa [State.withdrawing] using noDeadline) (by simp [State.withdrawing])
      (by simp [State.withdrawing]) (by simp [flushed]) (by rw [same]; simpa using silent)

theorem presenceAgrees_keptByRequests : KeptByRequests PresenceAgrees := by
  constructor
  case beginHandover =>
    intro s passive h
    obtain ⟨line, sending⟩ := h
    refine PresenceAgrees.testWait ⟨?_, sending⟩
    have noWakeAck := line.no_wakeAck (by simp [passive]) (by simp [passive])
    have noPulse := line.no_pulse (by simp [passive])
    have noCount := line.no_escalations (by simp [passive]) (by simp [passive])
    have quiet := line.quiet (Or.inl passive)
    constructor <;> simp [noWakeAck, noPulse, noCount]
    exact quiet
  case beginLeaving => exact fun s proxy _ h => h.beginLeaving proxy
  case acknowledgeWake =>
    intro s awake h
    obtain ⟨line, sending⟩ := h
    have notEntering : s.prc.presence ≠ .entering := by rcases awake with e | e <;> simp [e]
    have notLeaving : s.prc.presence ≠ .leaving := by rcases awake with e | e <;> simp [e]
    exact ⟨LineAgrees.of_proxy rfl (line.no_deadline notEntering) rfl rfl (line.no_pending notEntering notLeaving) rfl,
      sending⟩
  all_goals
    intros
    refine PresenceAgrees.of_same ‹_› ?_ ?_ ?_ <;> simp

/-! ### Events -/

/-- In a proxy state the walk of a frame may wake the processor and queue a reply (R51 to R67). -/
theorem PresenceAgrees.walk {s : State} (h : PresenceAgrees s) (proxy : s.prc.presence.isProxy = true) (b : Fin 10)
    (n : Nat) : PresenceAgrees (s.walk b n) := by
  have answers : KeptByAnswers fun u => PresenceAgrees u ∧ u.prc.presence.isProxy = true := by
    constructor
    case queueReply =>
      intro u i e t c frame _ _ _ _ hu
      obtain ⟨⟨line, sending⟩, proxy⟩ := hu
      have notOurs : ¬(u.prc.presence = .passive ∨ u.prc.presence = .entering) := by
        rintro (e | e) <;> simp [e, Presence.isProxy] at proxy
      have notLeaving : u.prc.presence ≠ .leaving := by
        intro e
        simp [e, Presence.isProxy] at proxy
      refine ⟨⟨⟨line.deadline, line.wakeAck, line.pulse, line.handover, line.reclaim, line.escalated,
        line.escalations, fun ours => absurd ours notOurs, fun leaving => absurd leaving notLeaving⟩,
        fun busy => ⟨by simp [State.queueReply], (sending busy).2⟩⟩, proxy⟩
    all_goals
      intros
      rename_i hu
      exact ⟨hu.1.of_same rfl rfl rfl, hu.2⟩
  have walked := State.walk_preserves (b := b) answers (fun _ _ h => ⟨h.1.of_same rfl rfl rfl, h.2⟩)
    (fun u r n hu => ⟨hu.1.takeCause _, by
      rw [State.takeCause_prc]
      split
      · rfl
      · exact hu.2⟩)
    (fun _ h => ⟨h.1.of_same rfl rfl rfl, h.2⟩) s n ⟨h, proxy⟩
  exact walked.1

/-- The end of a transmission leaves a gap; in LEAVING its reply was the last, and LEAVING ends (R16, R85). -/
theorem PresenceAgrees.endsTransmission {s : State} (h : PresenceAgrees s) : PresenceAgrees s.endsTransmission := by
  obtain ⟨line, sending⟩ := h
  have silent : s.finishHead.phyTxen = false :=
    State.phyTxen_of_gapFromNow (u := s) (by rw [State.finishHead_txq])
  unfold State.endsTransmission
  split
  · rename_i bytes done transmitter
    have busy : s.phyTxen = true := by
      unfold State.phyTxen
      rw [transmitter]
    dsimp only
    split
    · rename_i leaving
      simp only [State.finishHead_keeps, beq_iff_eq] at leaving
      have last : s.txq.queue.tail = [] := by
        rw [← List.length_eq_zero_iff, List.length_tail, (line.leaving leaving).1]
      refine PresenceAgrees.leavingEnd ?_ ?_ ?_ ?_ silent
      · simpa using line.no_deadline (by simp [leaving])
      · simpa using line.no_wakeAck (by simp [leaving]) (by simp [leaving])
      · simpa using line.no_pulse (by simp [leaving])
      · rw [State.finishHead_txq]
        exact last
    · rename_i notLeaving
      simp only [State.finishHead_keeps, beq_iff_eq] at notLeaving
      have notOurs : ¬(s.prc.presence = .passive ∨ s.prc.presence = .entering) := by
        intro ours
        simp [(line.quiet ours).2] at busy
      refine ⟨?_, SendingAgrees.of_silent silent⟩
      constructor
      all_goals simp only [State.finishHead_keeps]
      exacts [line.deadline, line.wakeAck, line.pulse, line.handover, line.reclaim, line.escalated, line.escalations,
        fun ours => absurd ours notOurs, fun leaving => absurd leaving notLeaving]
  · exact ⟨line, sending⟩
  · exact ⟨line, sending⟩

/-- A transmission starts from IDLE in a state where the line is the part's, on a link that is UP (R82). -/
theorem PresenceAgrees.startsTransmission {s : State} (h : PresenceAgrees s) :
    PresenceAgrees s.startsTransmission := by
  obtain ⟨line, sending⟩ := h
  unfold State.startsTransmission
  split
  · rename_i start
    split
    · rename_i r rest c queue up
      unfold State.startCondition at start
      split at start
      · rename_i idle _
        simp only [Bool.and_eq_true] at start
        have silent : s.phyTxen = false := by
          unfold State.phyTxen
          rw [idle]
        have notOurs : ¬(s.prc.presence = .passive ∨ s.prc.presence = .entering) := by
          rintro (e | e) <;> simp [State.lineSelPart, e, Presence.isProxy] at start
        have notLeaving : s.prc.presence ≠ .leaving := by
          intro leaving
          simp [(line.leaving leaving).2] at silent
        exact ⟨⟨line.deadline, line.wakeAck, line.pulse, line.handover, line.reclaim, line.escalated,
          line.escalations, fun ours => absurd ours notOurs, fun leaving => absurd leaving notLeaving⟩,
          fun _ => ⟨by simp [queue], c, up⟩⟩
      · cases start
    · exact ⟨line, sending⟩
  · exact ⟨line, sending⟩

/-- A measurement changes the link state only where nothing is being sent, or as the link leaves UP (R135 to R138). -/
theorem SendingAgrees.takeMeasurement {s : State} (h : PresenceAgrees s) (cycles : Nat) :
    SendingAgrees (s.takeMeasurement cycles) := by
  have acts : ∀ (u : State) m, PresenceAgrees u → SendingAgrees (u.actOnMeasurement m) := by
    intro u m hu
    obtain ⟨line, sending⟩ := hu
    unfold State.actOnMeasurement
    split
    · rename_i down
      refine SendingAgrees.of_silent ?_
      rw [State.phyTxen_of_txq (s := u) (by simp)]
      exact sending.silent (by simp [down])
    · rename_i c e settling
      have silent := sending.silent (by simp [settling])
      split
      · exact SendingAgrees.of_silent silent
      · split
        · exact SendingAgrees.of_silent silent
        · exact SendingAgrees.of_silent silent
    · split
      · exact (PresenceAgrees.leaveUp line _).2
      · split
        · unfold State.testRate
          split
          · exact sending
          · split
            · exact sending
            · exact sending
        · exact (PresenceAgrees.leaveUp line _).2
  unfold State.takeMeasurement
  split
  · refine acts _ _ ?_
    exact h.of_same rfl rfl rfl
  · exact h.2

/-- After a supply-switch reset PRC stands in PASSIVE, PROXY or WAKING, and the queue is empty (R21, R92). -/
theorem LineAgrees.of_supplySwitch {s t : State} (prc : t.prc = s.prcAfterSupplySwitch) (txq : t.txq = Txq.cold) :
    LineAgrees t := by
  have silent : t.phyTxen = false := by
    unfold State.phyTxen
    rw [txq]
    rfl
  cases presence : s.prc.presence
  all_goals simp only [State.prcAfterSupplySwitch, presence, Presence.afterSupplySwitch] at prc
  case passive | entering | leaving =>
    exact LineAgrees.of_passive (by rw [prc]) (by rw [prc]) (by rw [prc]; rfl) (by rw [prc]) (by rw [prc]) (by rw [prc])
      (by rw [txq]; rfl) silent
  case proxy =>
    exact LineAgrees.of_proxy (by rw [prc]) (by rw [prc]) (by rw [prc]; rfl) (by rw [prc]) (by rw [prc]) (by rw [prc])
  case waking | escalated =>
    exact LineAgrees.of_waking (by rw [prc]) (by rw [prc]) (by rw [prc]; rfl) (by rw [prc]) (by rw [prc]) (by rw [prc])

theorem presenceAgrees_keptByEvents : KeptByEvents PresenceAgrees := by
  constructor
  case runRequest =>
    intro s kind body requests h
    exact presenceAgrees_keptByRequests.run s kind body requests h
  case coldReset =>
    intro s fast _
    exact ⟨LineAgrees.of_passive rfl rfl rfl rfl rfl rfl rfl rfl, SendingAgrees.of_silent rfl⟩
  case supplySwitchReset =>
    intro s us fast _
    refine State.supplySwitchReset_preserves (fun u e hu => ?_) (fun _ _ h => h.of_same rfl rfl rfl) ⟨?_, SendingAgrees.of_silent rfl⟩
    · cases e with
      | supplySwitch => exact hu.takeCause _
      | expiry n => exact PresenceAgrees.takeCause (s := u.raise (.alarm n)) (hu.of_same rfl rfl rfl) _
    · exact LineAgrees.of_supplySwitch (s := s.elapse us) rfl rfl
  case hostTxFalls =>
    intro s h
    exact PresenceAgrees.testWait (h.of_same rfl rfl rfl)
  case handoverDeadline =>
    intro s h
    unfold State.handoverDeadlineExpires
    split
    · rename_i due
      unfold State.handoverDeadlineDue at due
      split at due
      · simp only [Bool.and_eq_true, beq_iff_eq] at due
        exact PresenceAgrees.switchToPart h.1 due.1 true
      · cases due
    · exact h
  case wakeAckTimer =>
    intro s h
    obtain ⟨line, sending⟩ := h
    unfold State.wakeAckTimerExpires
    split
    · rename_i due
      split
      · rename_i waking
        simp only [beq_iff_eq] at waking
        have noDeadline := line.no_deadline (by simp [waking])
        have noPending := line.no_pending (by simp [waking]) (by simp [waking])
        refine ⟨?_, sending⟩
        constructor <;> simp [noDeadline, noPending]
      · rename_i notWaking
        have escalated : s.prc.presence = .escalated := by
          unfold State.wakeAckTimerDue at due
          split at due
          · simp_all
          · cases due
        have noDeadline := line.no_deadline (by simp [escalated])
        have noPending := line.no_pending (by simp [escalated]) (by simp [escalated])
        refine ⟨?_, sending⟩
        constructor <;> simp [noDeadline, noPending, escalated]
    · exact ⟨line, sending⟩
  case pulseEnds =>
    intro s h
    obtain ⟨line, sending⟩ := h
    unfold State.pulseEnds
    split
    · exact ⟨⟨line.deadline, line.wakeAck, by simp, line.handover, line.reclaim, line.escalated, line.escalations,
        line.quiet, line.leaving⟩, sending⟩
    · exact ⟨line, sending⟩
  case startFrame =>
    intro s b h
    obtain same | ⟨-, f, started⟩ | ⟨-, i, f, -, started⟩ | ⟨-, f, started⟩ := s.startFrame_cases b
    · rwa [same]
    all_goals
      rw [started]
      exact h.of_same rfl rfl rfl
  case endFrame =>
    intro s partialByte h
    exact State.endFrame_preserves (fun _ h => h.of_same rfl rfl rfl) (fun _ _ h => h.of_same rfl rfl rfl)
      (fun _ _ h => h.of_same rfl rfl rfl) (fun _ b n proxy h => h.walk proxy b n)
      (fun _ _ h => h.of_same rfl rfl rfl) (fun _ h => h.testWait) s partialByte h
  case startsTransmission => exact fun s h => h.startsTransmission
  case endsTransmission => exact fun s h => h.endsTransmission
  case endsGap =>
    intro s h
    unfold State.endsGap
    split
    · rename_i due
      have silent : s.phyTxen = false := by
        unfold State.gapDue at due
        unfold State.phyTxen
        split at due
        · rename_i gap
          rw [gap]
        · cases due
        · cases due
      obtain ⟨line, -⟩ := h
      exact ⟨⟨line.deadline, line.wakeAck, line.pulse, line.handover, line.reclaim, line.escalated, line.escalations,
        fun ours => ⟨(line.quiet ours).1, rfl⟩, fun leaving => by simp [(line.leaving leaving).2] at silent⟩,
        SendingAgrees.of_silent rfl⟩
    · exact h
  case verifyPassEnds =>
    intro s h
    have judged : PresenceAgrees s.judged := by
      unfold State.judged
      split
      · exact h.of_same (by simp) (by simp) (by simp)
      · refine PresenceAgrees.takeCause ?_ _
        exact h.of_same rfl rfl rfl
    rw [State.verifyPassEnds_eq]
    split
    · split
      · exact judged.of_same (by simp) (by simp) (by simp)
      · exact judged
    · exact h
  case phyLinkRises =>
    intro s h
    obtain ⟨line, sending⟩ := h
    unfold State.phyLinkRises
    dsimp only
    split
    · rename_i down
      have silent := sending.silent (by simp [down])
      refine ⟨line.of_same (by simp) (by simp), SendingAgrees.of_silent ?_⟩
      rw [State.phyTxen_of_txq (s := s) (by simp), silent]
    · exact ⟨line.of_same rfl rfl, sending⟩
    · exact ⟨line.of_same rfl rfl, sending⟩
  case phyLinkFalls =>
    intro s h
    obtain ⟨line, sending⟩ := h
    unfold State.phyLinkFalls
    dsimp only
    split
    · exact ⟨line.of_same rfl rfl, sending⟩
    · rename_i c e settling
      exact ⟨line.of_same rfl rfl, SendingAgrees.of_silent (sending.silent (by simp [settling]))⟩
    · refine PresenceAgrees.leaveUp ?_ _
      exact line.of_same rfl rfl
  case takeMeasurement =>
    intro s cycles h
    exact ⟨State.takeMeasurement_preserves (P := LineAgrees) (fun _ _ h => h.of_same rfl rfl) (fun _ _ h => h.of_same rfl rfl)
      (fun _ _ h => (PresenceAgrees.leaveUp h _).1) s cycles h.1, SendingAgrees.takeMeasurement h cycles⟩
  case settles =>
    intro s h
    obtain ⟨line, sending⟩ := h
    unfold State.settles
    split
    · rename_i c e settling
      split
      · refine PresenceAgrees.takeCause ?_ _
        refine ⟨line.of_same rfl rfl, ?_⟩
        exact SendingAgrees.of_silent (sending.silent (by simp [settling]))
      · exact ⟨line, sending⟩
    · exact ⟨line, sending⟩
    · exact ⟨line, sending⟩
  case recenters =>
    intro s h
    exact State.recenters_preserves (fun _ _ link h => h.of_same rfl rfl link) (fun _ h => h.of_same rfl rfl rfl)
      (fun _ _ h => h.of_same rfl rfl rfl) (fun _ h => h.cutAndReport) s h
  case quarantineEnds =>
    intro s h
    unfold State.quarantineEnds
    split
    · exact h.of_same rfl rfl rfl
    · exact h
  case alarmExpires =>
    intro s n h
    unfold State.alarmExpires
    split
    · refine PresenceAgrees.takeCause ?_ _
      exact h.of_same rfl rfl rfl
    · exact h
  all_goals
    intros
    refine PresenceAgrees.of_same ‹_› ?_ ?_ ?_ <;> simp

/-! ### O59 -/

/-- Settles O59: the agreement is kept by every operation that a step is made of. -/
theorem stepKeepsPresence : Obligations.StepKeepsPresence := by
  intro s t taken
  rw [presenceAgrees_iff, presenceAgrees_iff]
  exact presenceAgrees_keptByEvents.step s t taken

end Sys2Proof.Machine
end

/-! The pool and the holders of its buffers (R31, R34, R98): the agreement as a statement about owner states, and what
each change of hands leaves of it. -/

section
namespace Sys2Proof.Machine

/-! ### One buffer changes hands -/

section
variable {own : Fin 10 → Owner} {holds : Fin 10 → Prop} {o new : Owner} {b : Fin 10}

/-- The buffers of an owner state that neither loses nor gains one stay as they were. -/
theorem owner_update_other (h : ∀ i, own i = o ↔ holds i) (before : own b ≠ o) (after : new ≠ o) (i : Fin 10) :
    Function.update own b new i = o ↔ holds i := by
  rw [← h i]
  rcases eq_or_ne i b with rfl | other
  · simp [before, after]
  · simp [other]

/-- The owner state that a buffer leaves keeps the others. -/
theorem owner_update_leaves (h : ∀ i, own i = o ↔ holds i) (after : new ≠ o) (i : Fin 10) :
    Function.update own b new i = o ↔ i ≠ b ∧ holds i := by
  rw [← h i]
  rcases eq_or_ne i b with rfl | other
  · simp [after]
  · simp [other]

/-- The owner state that a buffer joins has it besides the others. -/
theorem owner_update_joins (h : ∀ i, own i = o ↔ holds i) (i : Fin 10) :
    Function.update own b o i = o ↔ i = b ∨ holds i := by
  rw [← h i]
  rcases eq_or_ne i b with rfl | other
  · simp
  · simp [other]

end

/-! ### The holders -/

/-- The owner states `own` name one holder for each buffer: the frame in reception `rx`, one reply of `queue`, or one
capture slot. -/
structure Held (own : Fin 10 → Owner) (rx : Option (Fin 10)) (queue : List (Fin 10))
    (slots : Fin 2 → Option (Fin 10)) : Prop where
  nodup : queue.Nodup
  apart : ∀ j k b, slots j = some b → slots k = some b → j = k
  receiving : ∀ i, own i = .receiving ↔ rx = some i
  queued : ∀ i, own i = .queued ↔ i ∈ queue
  captured : ∀ i, own i = .captured ↔ ∃ k, slots k = some i

section
variable {own : Fin 10 → Owner} {rx : Option (Fin 10)} {queue : List (Fin 10)} {slots : Fin 2 → Option (Fin 10)}
  {b : Fin 10} {k : Fin 2}

/-- At a cold pool no buffer has a holder. -/
theorem Held.cold : Held (fun _ => .free) none [] (fun _ => none) := by
  constructor <;> simp

/-- The order of the queue does not matter to the accounting. -/
theorem Held.perm (h : Held own rx queue slots) {other : List (Fin 10)} (same : queue.Perm other) :
    Held own rx other slots :=
  ⟨same.nodup_iff.mp h.nodup, h.apart, h.receiving, fun i => (h.queued i).trans same.mem_iff, h.captured⟩

/-- The frame in reception is dropped and its buffer made FREE (R27, R28). -/
theorem Held.release (h : Held own (some b) queue slots) : Held (Function.update own b .free) none queue slots := by
  have held : own b = .receiving := (h.receiving b).2 rfl
  refine ⟨h.nodup, h.apart, fun i => ?_, owner_update_other h.queued (by simp [held]) (by decide),
    owner_update_other h.captured (by simp [held]) (by decide)⟩
  rw [owner_update_leaves h.receiving (by decide)]
  simp [eq_comm]

/-- The head of the queue leaves it and its buffer is made FREE (R85, R86). -/
theorem Held.dequeue (h : Held own rx (b :: queue) slots) : Held (Function.update own b .free) rx queue slots := by
  have held : own b = .queued := (h.queued b).2 (by simp)
  obtain ⟨notIn, nodup⟩ := List.nodup_cons.mp h.nodup
  refine ⟨nodup, h.apart, owner_update_other h.receiving (by simp [held]) (by decide), fun i => ?_,
    owner_update_other h.captured (by simp [held]) (by decide)⟩
  rw [owner_update_leaves h.queued (by decide)]
  rcases eq_or_ne i b with rfl | other <;> simp [*]

/-- A capture slot is freed and its buffer made FREE (R98). -/
theorem Held.uncapture (h : Held own rx queue slots) (slot : slots k = some b) :
    Held (Function.update own b .free) rx queue (Function.update slots k none) := by
  have held : own b = .captured := (h.captured b).2 ⟨k, slot⟩
  have stays : ∀ j c, Function.update slots k none j = some c ↔ j ≠ k ∧ slots j = some c := by
    intro j c
    rcases eq_or_ne j k with rfl | other <;> simp [*]
  refine ⟨h.nodup, fun i j c first second => ?_, owner_update_other h.receiving (by simp [held]) (by decide),
    owner_update_other h.queued (by simp [held]) (by decide), fun i => ?_⟩
  · exact h.apart i j c ((stays i c).mp first).2 ((stays j c).mp second).2
  · rw [owner_update_leaves h.captured (by decide)]
    constructor
    · rintro ⟨other, j, in_slot⟩
      refine ⟨j, (stays j i).mpr ⟨?_, in_slot⟩⟩
      rintro rfl
      exact other (Option.some_inj.mp (in_slot.symm.trans slot))
    · rintro ⟨j, in_slot⟩
      obtain ⟨other, in_slot⟩ := (stays j i).mp in_slot
      exact ⟨fun same => other (h.apart j k b (same ▸ in_slot) slot), j, in_slot⟩

/-- A claim for the frame in reception takes a FREE buffer (R24, R32). -/
theorem Held.receive (h : Held own none queue slots) (free : own b = .free) :
    Held (Function.update own b .receiving) (some b) queue slots := by
  refine ⟨h.nodup, h.apart, fun i => ?_, owner_update_other h.queued (by simp [free]) (by decide),
    owner_update_other h.captured (by simp [free]) (by decide)⟩
  rw [owner_update_joins h.receiving]
  simp [eq_comm]

/-- A claim for a reply takes a FREE buffer, and the reply joins the queue at its tail (R66, R67). -/
theorem Held.enqueue (h : Held own rx queue slots) (free : own b = .free) :
    Held (Function.update own b .queued) rx (queue ++ [b]) slots := by
  have notIn : b ∉ queue := by rw [← h.queued b, free]; decide
  refine ⟨?_, h.apart, owner_update_other h.receiving (by simp [free]) (by decide), fun i => ?_,
    owner_update_other h.captured (by simp [free]) (by decide)⟩
  · rw [← List.concat_eq_append]
    exact h.nodup.concat notIn
  · rw [owner_update_joins h.queued]
    simp [or_comm]

/-- The receive buffer becomes a capture in a free slot (R35, R98). -/
theorem Held.capture (h : Held own (some b) queue slots) (slot : slots k = none) :
    Held (Function.update own b .captured) none queue (Function.update slots k (some b)) := by
  have held : own b = .receiving := (h.receiving b).2 rfl
  have unslotted : ∀ j, slots j ≠ some b := by
    intro j in_slot
    have captured := (h.captured b).2 ⟨j, in_slot⟩
    rw [held] at captured
    cases captured
  have holds : ∀ j c, Function.update slots k (some b) j = some c ↔ (j = k ∧ c = b) ∨ slots j = some c := by
    intro j c
    rcases eq_or_ne j k with rfl | other
    · simp [slot, eq_comm]
    · simp [other]
  refine ⟨h.nodup, fun i j c first second => ?_, fun i => ?_, owner_update_other h.queued (by simp [held]) (by decide),
    fun i => ?_⟩
  · obtain ⟨atK, ofB⟩ | before := (holds i c).mp first <;> obtain ⟨atK', ofB'⟩ | before' := (holds j c).mp second
    · exact atK.trans atK'.symm
    · exact absurd (ofB ▸ before') (unslotted j)
    · exact absurd (ofB' ▸ before) (unslotted i)
    · exact h.apart i j c before before'
  · rw [owner_update_leaves h.receiving (by decide)]
    simp [eq_comm]
  · rw [owner_update_joins h.captured]
    simp only [holds]
    constructor
    · rintro (rfl | ⟨j, in_slot⟩)
      · exact ⟨k, .inl ⟨rfl, rfl⟩⟩
      · exact ⟨j, .inr in_slot⟩
    · rintro ⟨j, ⟨-, rfl⟩ | in_slot⟩
      · exact .inl rfl
      · exact .inr ⟨j, in_slot⟩

end

end Sys2Proof.Machine
end

/-! The pool's accounting through a step (R31, R34, R98), and O60. -/

section
namespace Sys2Proof.Machine

/-! ### The holders of a state -/

/-- The owner states of a pool. -/
def ownersOf (pool : Vector Buffer 10) : Fin 10 → Owner := fun i => pool[i].owner

@[simp] theorem ownersOf_set (pool : Vector Buffer 10) (b : Fin 10) (x : Buffer) :
    ownersOf (pool.set b x) = Function.update (ownersOf pool) b x.owner := by
  funext i
  unfold ownersOf
  rw [Vector.get_set]
  rcases eq_or_ne i b with rfl | other
  · simp
  · simp [other, other.symm]

/-- The capture slots as a function. -/
def slotsOf (slots : Vector (Option (Fin 10)) 2) : Fin 2 → Option (Fin 10) := fun k => slots[k]

@[simp] theorem slotsOf_set (slots : Vector (Option (Fin 10)) 2) (k : Fin 2) (x : Option (Fin 10)) :
    slotsOf (slots.set k x) = Function.update (slotsOf slots) k x := by
  funext i
  unfold slotsOf
  rw [Vector.get_set]
  rcases eq_or_ne i k with rfl | other
  · simp
  · simp [other, other.symm]

/-- The buffer of the frame in reception (R23). -/
def Rxp.holder : Rxp → Option (Fin 10)
  | .storing b _ => some b
  | .idle | .streaming _ | .discarding _ | .ignoring => none

theorem Rxp.holder_eq_some {r : Rxp} {b : Fin 10} : r.holder = some b ↔ ∃ f, r = .storing b f := by
  cases r <;> simp [Rxp.holder]

theorem Rxp.holder_damage (r : Rxp) : r.damage.holder = r.holder := by
  cases r <;> rfl

/-- The pool of a state has one holder for each buffer, where RXP holds `rx`. -/
abbrev State.HeldBy (s : State) (rx : Option (Fin 10)) : Prop :=
  Held (ownersOf s.pool) rx (s.txq.queue.map QueuedReply.buf) (slotsOf s.wlog.slots)

/-- The pool of a state has one holder for each buffer. -/
def State.Accounted (s : State) : Prop := s.HeldBy s.rxp.holder

theorem poolAccounted_iff (s : State) : PoolAccounted s ↔ s.Accounted := by
  have inSlot : ∀ i, (∃ k, slotsOf s.wlog.slots k = some i) ↔ s.wlog.slots[0] = some i ∨ s.wlog.slots[1] = some i :=
    fun i => Fin.exists_fin_two
  constructor
  · rintro ⟨nodup, apart, owners⟩
    refine ⟨nodup, ?_, fun i => (owners i).1.trans Rxp.holder_eq_some.symm, fun i => (owners i).2.1,
      fun i => (owners i).2.2.trans (inSlot i).symm⟩
    intro j k b first second
    fin_cases j <;> fin_cases k
    · rfl
    · exact absurd second (apart b first)
    · exact absurd first (apart b second)
    · rfl
  · rintro ⟨nodup, apart, receiving, queued, captured⟩
    refine ⟨nodup, fun b first second => absurd (apart 0 1 b first second) (by decide), fun i =>
      ⟨(receiving i).trans Rxp.holder_eq_some, queued i, (captured i).trans (inSlot i)⟩⟩

section
variable {s t : State} {rx : Option (Fin 10)} {b : Fin 10}

/-- The agreement rests on the pool, on the queue and on the capture slots. -/
theorem State.HeldBy.of_same (h : s.HeldBy rx) (pool : ownersOf t.pool = ownersOf s.pool)
    (queue : t.txq.queue = s.txq.queue) (slots : t.wlog.slots = s.wlog.slots) : t.HeldBy rx := by
  unfold State.HeldBy
  rw [pool, queue, slots]
  exact h

theorem State.Accounted.of_same (h : s.Accounted) (pool : t.pool = s.pool) (queue : t.txq.queue = s.txq.queue)
    (slots : t.wlog.slots = s.wlog.slots) (rxp : t.rxp = s.rxp) : t.Accounted := by
  unfold State.Accounted
  rw [rxp]
  exact State.HeldBy.of_same h (by rw [pool]) queue slots

theorem State.Accounted.heldBy (h : s.Accounted) {r : Rxp} (rxp : s.rxp = r) : s.HeldBy r.holder := rxp ▸ h

/-! ### The shared operations -/

theorem State.HeldBy.freeBuffer (h : s.HeldBy (some b)) : (s.freeBuffer b).HeldBy none := by
  have released := h.release
  unfold State.freeBuffer State.HeldBy
  simpa using released

/-- A flush makes the buffers of the replies it removes FREE (R86, R87). -/
theorem Held.flushReplies (rs : List QueuedReply) {queue : List (Fin 10)} {slots : Fin 2 → Option (Fin 10)} :
    ∀ {s : State}, Held (ownersOf s.pool) rx (rs.map QueuedReply.buf ++ queue) slots →
      Held (ownersOf (s.flushReplies rs).pool) rx queue slots := by
  induction rs with
  | nil => exact fun h => h
  | cons r rest ih =>
    intro s h
    have freed := Held.dequeue h
    refine ih (s := (s.freeBuffer r.buf).count .answersFlushed) ?_
    unfold State.freeBuffer
    simpa using freed

/-- The cut of a frame in reception makes its buffer FREE (R28). -/
theorem State.Accounted.cutFrame (h : s.Accounted) : s.cutFrame.Accounted := by
  unfold State.cutFrame
  split
  · rename_i i f storing
    refine State.HeldBy.of_same (s := s.freeBuffer i) (h.heldBy storing).freeBuffer ?_ ?_ ?_ <;>
      simp [State.freeBuffer]
  · rename_i streaming
    have held := h.heldBy streaming
    exact held.of_same rfl rfl rfl
  · rename_i discarding
    have held := h.heldBy discarding
    exact held.of_same rfl rfl rfl
  · exact h
  · exact h

theorem State.Accounted.switchToPart (h : s.Accounted) (forced : Bool) : (s.switchToPart forced).Accounted := by
  refine State.Accounted.of_same (s := s.cutFrame) h.cutFrame ?_ ?_ ?_ ?_ <;> simp [State.switchToPart]

theorem State.Accounted.testWait (h : s.Accounted) : s.testWait.Accounted := by
  unfold State.testWait
  split
  · exact h.switchToPart false
  · exact h

theorem State.Accounted.leavingEnd (h : s.Accounted) : s.leavingEnd.Accounted := by
  refine State.Accounted.of_same (s := s.cutFrame) h.cutFrame ?_ ?_ ?_ ?_ <;> simp [State.leavingEnd]

theorem State.Accounted.cutAndReport (h : s.Accounted) : s.cutAndReport.Accounted := by
  unfold State.cutAndReport
  split
  · exact h.cutFrame.testWait
  · exact h

theorem State.Accounted.linkFlush (h : s.Accounted) : s.linkFlush.Accounted := by
  have flushed : (({ s with txq := Txq.cold } : State).flushReplies s.txq.queue).Accounted := by
    have held : Held (ownersOf s.pool) s.rxp.holder (s.txq.queue.map QueuedReply.buf ++ []) (slotsOf s.wlog.slots) := by
      rw [List.append_nil]
      exact h
    have freed := Held.flushReplies s.txq.queue (s := { s with txq := Txq.cold }) held
    unfold State.Accounted State.HeldBy
    simpa [Txq.cold] using freed
  unfold State.linkFlush
  dsimp only
  split
  · exact flushed.leavingEnd
  · exact flushed

/-- A cause without a frame leaves the pool and the slots alone (R98). -/
theorem State.Accounted.takeCause (h : s.Accounted) {o : Offer} (plain : o.frame = none) : (s.takeCause o).Accounted := by
  obtain ⟨pool, slots⟩ := s.takeCause_without_frame o plain
  exact h.of_same pool (by simp) slots (by simp)

theorem State.Accounted.leaveUp (h : s.Accounted) (dest : Link) : (s.leaveUp dest).Accounted := by
  unfold State.leaveUp
  refine State.Accounted.linkFlush (State.Accounted.cutAndReport (State.Accounted.takeCause ?_ rfl))
  exact h.of_same rfl rfl rfl rfl

/-- RECLAIM's flush leaves the reply in transmission at most (R87). -/
theorem State.Accounted.flushWaiting (h : s.Accounted) : s.flushWaiting.Accounted := by
  have flushed : ∀ stay go : List QueuedReply, (go ++ stay).Perm s.txq.queue →
      (({ s with txq := { s.txq with queue := stay } } : State).flushReplies go).Accounted := by
    intro stay go parts
    have held : Held (ownersOf s.pool) s.rxp.holder (go.map QueuedReply.buf ++ stay.map QueuedReply.buf)
        (slotsOf s.wlog.slots) := by
      rw [← List.map_append]
      exact Held.perm h (parts.map _).symm
    have freed := Held.flushReplies go (s := { s with txq := { s.txq with queue := stay } }) held
    unfold State.Accounted State.HeldBy
    simpa using freed
  unfold State.flushWaiting
  split
  · refine flushed _ _ (List.perm_append_comm.trans ?_)
    rw [List.take_append_drop]
  · exact flushed _ _ (by simp)
  · exact flushed _ _ (by simp)

/-- A FILTER cause turns the receive buffer into a capture, or leaves it with RXP (R35, R98). -/
theorem State.HeldBy.takeCause (h : s.HeldBy (some b)) (r : FilterRecord) (n : Nat) :
    (s.takeCause (r.offer b n)).HeldBy (some b) ∨ (s.takeCause (r.offer b n)).HeldBy none := by
  have added : ∀ q, (s.addRecord q (r.offer b n)).HeldBy (some b) ∨ (s.addRecord q (r.offer b n)).HeldBy none := by
    intro q
    unfold State.addRecord
    split
    · rename_i c len k frame slot
      have same : c = b := by simpa [FilterRecord.offer, eq_comm] using congrArg (Option.map Prod.fst) frame
      have empty : slotsOf s.wlog.slots k = none := by
        unfold Wlog.freeSlot at slot
        unfold slotsOf
        simpa using List.find?_some slot
      subst same
      have captured := h.capture empty
      right
      unfold State.HeldBy
      simpa using captured
    · exact .inl (h.of_same rfl rfl rfl)
  unfold State.takeCause
  split
  · split
    · rename_i q _
      split
      · exact (added q).imp (fun held => held.of_same (by simp) (by simp) (by simp))
          (fun held => held.of_same (by simp) (by simp) (by simp))
      · exact .inl (h.of_same (by simp) (by simp) (by simp [State.coalesce]))
    · exact .inl (h.of_same (by simp) (by simp) (by simp [State.coalesce]))
  · exact .inl h

/-- A capture slot is freed with its buffer (R98). -/
theorem State.HeldBy.freeSlot (h : s.HeldBy rx) (k : Fin 2) : (s.freeSlot k).HeldBy rx := by
  unfold State.freeSlot
  split
  · exact h
  · rename_i c slot
    have freed := h.uncapture (k := k) (b := c) slot
    unfold State.HeldBy
    simpa [State.freeBuffer] using freed

theorem State.Accounted.freeSlot (h : s.Accounted) (k : Fin 2) : (s.freeSlot k).Accounted := by
  have rxp : (s.freeSlot k).rxp = s.rxp := by simp
  unfold State.Accounted
  rw [rxp]
  exact State.HeldBy.freeSlot h k

end

/-! ### A frame from its start to its end -/

/-- While a walk runs, RXP still holds the buffer `b`, or it has become a capture (R55). -/
def State.Walking (b : Fin 10) (s : State) : Prop := s.HeldBy (some b) ∨ s.HeldBy none

theorem State.Walking.of_same {b : Fin 10} {s t : State} (h : s.Walking b) (pool : ownersOf t.pool = ownersOf s.pool)
    (queue : t.txq.queue = s.txq.queue) (slots : t.wlog.slots = s.wlog.slots) : t.Walking b :=
  h.imp (fun held => held.of_same pool queue slots) (fun held => held.of_same pool queue slots)

/-- An admitted reply takes a FREE buffer with it into the queue (R66, R67). -/
theorem State.HeldBy.queueReply {s : State} {rx : Option (Fin 10)} {b : Fin 10} (h : s.HeldBy rx)
    (free : s.pool[b].owner = .free) (i : Fin 32) (e : AnswerEntry) (t : Template) (frame : List Byte) :
    ((s.setBuffer b ⟨.queued, []⟩).queueReply i e t b frame).HeldBy rx := by
  have joined := h.enqueue free
  unfold State.HeldBy
  simpa [State.queueReply] using joined

theorem walking_keptByAnswers (b : Fin 10) : KeptByAnswers (State.Walking b) where
  count _ _ h := h.of_same rfl rfl rfl
  report _ _ h := h.of_same rfl rfl rfl
  raise _ _ h := h.of_same rfl rfl rfl
  hitAnswer _ _ _ _ h := h.of_same rfl rfl rfl
  queueReply _ i e t _ frame _ _ _ free h :=
    h.imp (fun held => held.queueReply free i e t frame) (fun held => held.queueReply free i e t frame)

/-- After a walk no frame is in reception, and the accounting holds without its buffer (R51, R55). -/
theorem State.HeldBy.walk {s : State} {b : Fin 10} (h : s.HeldBy (some b)) (n : Nat) : (s.walk b n).HeldBy none := by
  have walked : (s.walkFrame b n s.pool[b].bytes).Walking b :=
    State.walkFrame_preserves (P := fun u => u.HeldBy (some b)) (walking_keptByAnswers b)
      (fun _ _ h => h.of_same rfl rfl rfl) (fun _ _ h => h.of_same rfl rfl rfl)
      (fun _ _ h => h.of_same (by simp) (by simp) (by simp)) (fun _ h => .inl h) (fun _ r n h => h.takeCause r n) s n _ h
  unfold State.walk State.disposeReceived
  obtain receiving | captured := walked
  · have owner := (receiving.receiving b).2 rfl
    unfold ownersOf at owner
    rw [if_pos (by simpa using owner)]
    exact receiving.freeBuffer
  · have owner := (captured.receiving b).not.2 (by simp)
    unfold ownersOf at owner
    rw [if_neg (by simpa using owner)]
    exact captured

/-- A frame that starts claims a FREE buffer for RXP, or none (R24, R33). -/
theorem State.Accounted.startFrame {s : State} (h : s.Accounted) (b : Byte) : (s.startFrame b).Accounted := by
  obtain same | ⟨idle, f, started⟩ | ⟨idle, i, f, free, started⟩ | ⟨idle, f, started⟩ := s.startFrame_cases b
  · rwa [same]
  · have held := h.heldBy idle
    rw [started]
    exact held.of_same rfl rfl rfl
  · have claimed := (h.heldBy idle).receive free
    rw [started]
    unfold State.Accounted State.HeldBy
    simpa [Rxp.holder] using claimed
  · have held := h.heldBy idle
    rw [started]
    exact held.of_same rfl rfl rfl

/-- A byte stored leaves the buffer with its owner (R25). -/
theorem State.HeldBy.storeByte {s : State} {rx : Option (Fin 10)} (h : s.HeldBy rx) (i : Fin 10) (b : Byte) :
    (s.storeByte i b).HeldBy rx := by
  unfold State.storeByte
  split
  · have same : Function.update (ownersOf s.pool) i s.pool[i].owner = ownersOf s.pool := Function.update_eq_self ..
    exact h.of_same (by simpa using same) (by simp) (by simp)
  · exact h

theorem State.Accounted.takeFrameByte {s : State} (h : s.Accounted) (b : Byte) : (s.takeFrameByte b).Accounted := by
  unfold State.takeFrameByte
  split
  · rename_i i f storing
    have held := h.heldBy storing
    unfold State.Accounted
    have rxp : (({ s with rxp := .storing i (f.take b) } : State).storeByte i b).rxp = .storing i (f.take b) := by simp
    rw [rxp]
    exact State.HeldBy.storeByte (s := { s with rxp := .storing i (f.take b) }) held i b
  · rename_i streaming
    have held := h.heldBy streaming
    exact held.of_same rfl rfl rfl
  · rename_i discarding
    have held := h.heldBy discarding
    exact held.of_same rfl rfl rfl
  · exact h
  · exact h

theorem State.Accounted.rxError {s : State} (h : s.Accounted) : s.rxError.Accounted := by
  unfold State.rxError
  split
  · rename_i storing
    have held := h.heldBy storing
    exact held.of_same rfl rfl rfl
  · rename_i streaming
    have held := h.heldBy streaming
    exact held.of_same rfl rfl rfl
  · rename_i discarding
    have held := h.heldBy discarding
    exact held.of_same rfl rfl rfl
  · exact h
  · exact h

/-- A frame in STORING ends: it is walked or its buffer is freed (R27). -/
theorem State.HeldBy.endStored {s : State} {b : Fin 10} (h : s.HeldBy (some b)) (f : RxFrame) :
    (s.endStored b f).HeldBy none := by
  have counted : (({ s with rxp := .idle } : State).countFrame
      (f.classify true s.settings.maxFrameBytes)).HeldBy (some b) := h.of_same (by simp) (by simp) (by simp)
  unfold State.endStored
  dsimp only
  split
  · exact counted.walk _
  · exact counted.freeBuffer

/-- A frame without a buffer ends: nothing changes hands (R26). -/
theorem State.HeldBy.countFrame {s : State} (h : s.HeldBy none) (c : Counter) :
    (({ s with rxp := .idle } : State).countFrame c).Accounted := by
  have idle : (({ s with rxp := .idle } : State).countFrame c).rxp = .idle := by simp
  unfold State.Accounted
  rw [idle]
  refine State.HeldBy.of_same (s := s) (rx := none) h ?_ ?_ ?_ <;> simp

theorem State.Accounted.endFrame {s : State} (h : s.Accounted) (partialByte : Bool) :
    (s.endFrame partialByte).Accounted := by
  unfold State.endFrame
  split
  · exact h
  · rename_i ignoring
    have held := h.heldBy ignoring
    exact held.of_same rfl rfl rfl
  · rename_i b f storing
    refine State.Accounted.testWait ?_
    have ended := (h.heldBy storing).endStored { f with partialByte := partialByte }
    have rxp : (s.endStored b { f with partialByte := partialByte }).rxp = .idle := by
      unfold State.endStored
      dsimp only
      split <;> simp
    unfold State.Accounted
    rw [rxp]
    exact ended
  · rename_i streaming
    have held := h.heldBy streaming
    exact State.Accounted.testWait (held.countFrame _)
  · rename_i discarding
    have held := h.heldBy discarding
    exact State.Accounted.testWait (held.countFrame _)

/-! ### Transmission and the resets -/

theorem State.Accounted.finishHead {s : State} (h : s.Accounted) : s.finishHead.Accounted := by
  unfold State.Accounted State.HeldBy at h ⊢
  unfold State.finishHead
  split
  · simpa using h
  · rename_i r rest queue
    rw [queue] at h
    have freed := Held.dequeue h
    simpa [State.freeBuffer] using freed

theorem State.Accounted.endsTransmission {s : State} (h : s.Accounted) : s.endsTransmission.Accounted := by
  unfold State.endsTransmission
  split
  · dsimp only
    split
    · exact h.finishHead.leavingEnd
    · exact h.finishHead
  · exact h
  · exact h

/-- With the pool, the queue and the log of a cold reset no buffer has a holder (R30, R92, R106). -/
theorem State.Accounted.of_cold {s : State} (pool : s.pool = poolCold) (txq : s.txq = Txq.cold)
    (slots : s.wlog.slots = Vector.replicate 2 none) (rxp : s.rxp = .idle) : s.Accounted := by
  have owners : ownersOf poolCold = fun _ => .free := funext poolCold_get_owner
  have empty : slotsOf (Vector.replicate 2 none) = fun _ => none := funext fun k => by simp [slotsOf]
  unfold State.Accounted State.HeldBy
  rw [pool, txq, slots, rxp, owners, empty]
  exact Held.cold

theorem State.Accounted.announce {s : State} (h : s.Accounted) (e : ResetEndEvent) : (s.announce e).Accounted := by
  obtain ⟨pool, slots⟩ := s.announce_pool_slots e
  exact h.of_same pool (by simp) slots (by simp)

theorem State.Accounted.resetMember {s : State} (h : s.Accounted) (m : ScopeMember) : (s.resetMember m).Accounted := by
  cases m
  case log => exact ((h.freeSlot 0).freeSlot 1).of_same rfl rfl rfl rfl
  all_goals refine State.Accounted.of_same h ?_ ?_ ?_ ?_ <;> simp [State.resetMember]

/-! ### O60 -/

theorem accounted_keptByRequests : KeptByRequests State.Accounted := by
  constructor
  case resetScopes => exact fun s scope h => State.resetScopes_preserves (fun _ m h => h.resetMember m) s scope h
  case beginHandover =>
    intro s _ h
    refine State.Accounted.testWait ?_
    exact h.of_same rfl rfl rfl rfl
  case beginLeaving =>
    intro s _ _ h
    have flushed : s.withdrawing.flushWaiting.Accounted := by
      refine State.Accounted.flushWaiting ?_
      exact h.of_same rfl rfl rfl rfl
    rw [State.beginLeaving_eq]
    split
    · exact flushed
    · exact flushed.leavingEnd
  case takeRecord =>
    intro s r rest _ h
    have taken : ({ s with wlog := { s.wlog with records := rest } } : State).Accounted := h.of_same rfl rfl rfl rfl
    unfold State.freeCaptureOf
    split
    · exact taken
    · exact taken.freeSlot _
  all_goals
    intros
    refine State.Accounted.of_same ‹_› ?_ ?_ ?_ ?_ <;> simp

theorem accounted_keptByEvents : KeptByEvents State.Accounted := by
  constructor
  case runRequest => exact fun s kind body requests h => accounted_keptByRequests.run s kind body requests h
  case coldReset => exact fun s fast _ => State.Accounted.of_cold rfl rfl rfl rfl
  case supplySwitchReset =>
    intro s us fast _
    obtain ⟨-, -, rxp, pool, txq, slots, -⟩ := s.supplySwitchReset_settles us fast
    exact State.Accounted.of_cold pool txq slots rxp
  case handoverDeadline =>
    intro s h
    unfold State.handoverDeadlineExpires
    split
    · exact h.switchToPart true
    · exact h
  case hostTxFalls =>
    intro s h
    unfold State.hostTxFalls
    refine State.Accounted.testWait ?_
    exact h.of_same rfl rfl rfl rfl
  case startFrame => exact fun s b h => h.startFrame b
  case takeFrameByte => exact fun s b h => h.takeFrameByte b
  case rxError => exact fun s h => h.rxError
  case endFrame => exact fun s p h => h.endFrame p
  case endsTransmission => exact fun s h => h.endsTransmission
  case startsTransmission =>
    intro s h
    unfold State.startsTransmission
    split
    · split
      · exact h.of_same rfl rfl rfl rfl
      · exact h
    · exact h
  case endsGap =>
    intro s h
    unfold State.endsGap
    split
    · exact h.of_same rfl rfl rfl rfl
    · exact h
  case verifyPassEnds =>
    intro s h
    have judged : s.judged.Accounted := by
      unfold State.judged
      split
      · exact h.of_same (by simp) (by simp) (by simp) (by simp)
      · refine State.Accounted.takeCause ?_ rfl
        exact h.of_same rfl rfl rfl rfl
    rw [State.verifyPassEnds_eq]
    split
    · split
      · exact judged.of_same (by simp) (by simp) (by simp) (by simp)
      · exact judged
    · exact h
  case phyLinkFalls =>
    intro s h
    unfold State.phyLinkFalls
    dsimp only
    split
    · exact h.of_same rfl rfl rfl rfl
    · exact h.of_same rfl rfl rfl rfl
    · refine State.Accounted.leaveUp ?_ _
      exact h.of_same rfl rfl rfl rfl
  case takeMeasurement =>
    intro s cycles h
    exact State.takeMeasurement_preserves (P := State.Accounted) (fun _ _ h => h.of_same rfl rfl rfl rfl)
      (fun _ _ h => h.of_same rfl rfl rfl rfl) (fun _ _ h => h.leaveUp _) s cycles h
  case settles =>
    intro s h
    unfold State.settles
    split
    · split
      · refine State.Accounted.takeCause ?_ rfl
        exact h.of_same rfl rfl rfl rfl
      · exact h
    · exact h
    · exact h
  case recenters =>
    intro s h
    refine State.recenters_preserves (P := State.Accounted) (fun _ _ _ h => h.of_same rfl rfl rfl rfl) ?_
      (fun _ _ h => h.of_same rfl rfl rfl rfl) (fun _ h => h.cutAndReport) s h
    intro s h
    unfold State.Accounted
    dsimp only
    rw [Rxp.holder_damage]
    exact State.HeldBy.of_same (s := s) h rfl rfl rfl
  case alarmExpires =>
    intro s n h
    unfold State.alarmExpires
    split
    · refine State.Accounted.takeCause ?_ rfl
      exact h.of_same rfl rfl rfl rfl
    · exact h
  all_goals
    intros
    refine State.Accounted.of_same ‹_› ?_ ?_ ?_ ?_ <;> simp

/-- Settles O60: each change of hands keeps one holder for each buffer. -/
theorem stepKeepsPoolAccounted : Obligations.StepKeepsPoolAccounted := by
  intro s t taken
  rw [poolAccounted_iff, poolAccounted_iff]
  exact accounted_keptByEvents.step s t taken

end Sys2Proof.Machine
end

/-! A step and time (R162, R165), the cold values (R19 to R192), and the timed rows before their time (R162): O1, O2,
O3, O4 and O56. -/

section
namespace Sys2Proof.Machine

/-! ### A step -/

/-- Settles O1: the queue is not empty, and that is the branch a step takes. -/
theorem stepExecutesFrontCommand : Obligations.StepExecutesFrontCommand := fun _ _ _ => rfl

/-- With no command waiting a step is the choice of a due event or a microsecond. -/
theorem step_of_pending_nil {s : State} (empty : s.pending = []) : step s = idleStep s := by
  unfold step
  rw [empty]

/-- A choice finds nothing only where nothing is due (log 4). -/
theorem chooseDue_eq_none_iff (choice : Nat) (due : List Instr) : chooseDue choice due = none ↔ due = [] := by
  cases due <;> simp [chooseDue]

/-- A choice is one of the events due (log 4). -/
theorem chooseDue_mem {choice : Nat} {due : List Instr} {c : Instr} (chosen : chooseDue choice due = some c) : c ∈ due := by
  cases due with
  | nil => cases chosen
  | cons first rest =>
    have inside : choice % (first :: rest).length < (first :: rest).length := Nat.mod_lt _ (by simp)
    obtain rfl : (first :: rest).getD (choice % (first :: rest).length) first = c := Option.some.inj chosen
    rw [List.getD_eq_getElem _ _ inside]
    exact List.getElem_mem inside

/-! ### A microsecond -/

@[simp] theorem State.tick_alarm (s : State) (n : Fin 4) : s.tick.alarms[n] = s.alarms[n].tick (s.time + 1) := by
  simp [State.tick]

/-- At its tick a RUNNING timer falls by 1, and its next tick is 1 ms later (R165). -/
theorem Alarm.tick_running {a : Alarm} {now : Time} {r : Nat} (running : a.state = .running r)
    (reached : a.nextTick = now) : a.tick now = { a with state := .running (r - 1), nextTick := now + 1000 } := by
  simp [Alarm.tick, running, reached, Config.usPerMs]

/-- Between its ticks a timer stays as it is (R165). -/
theorem Alarm.tick_of_ne {a : Alarm} {now : Time} (other : a.nextTick ≠ now) : a.tick now = a := by
  unfold Alarm.tick
  split
  · rw [if_neg other]
  · rfl
  · rfl

/-- A timer that is not RUNNING takes no tick (R165). -/
theorem Alarm.tick_of_stopped {a : Alarm} {now : Time} (stopped : a.state = .idle ∨ a.state = .spent) :
    a.tick now = a := by
  obtain idle | spent := stopped
  · simp [Alarm.tick, idle]
  · simp [Alarm.tick, spent]

/-- Settles O2, by what the choice finds, and for the microsecond by the timer's state and next tick. -/
theorem emptyQueueStepAndTicks : Obligations.EmptyQueueStepAndTicks := by
  constructor
  · intro s empty
    rw [step_of_pending_nil empty]
    refine ⟨chooseDue_eq_none_iff _ _, fun c next => ⟨chooseDue_mem next, ?_⟩, fun none_due => ?_⟩
    · unfold idleStep
      rw [next]
      rfl
    · have next : s.nextDue = none := (chooseDue_eq_none_iff _ _).mpr none_due
      unfold idleStep
      rw [next]
  · intro s n r
    refine ⟨⟨_, rfl⟩, fun running reached => ?_, fun other => ?_, fun stopped => ?_⟩
    · rw [State.tick_alarm, Alarm.tick_running running reached]
    · rw [State.tick_alarm, Alarm.tick_of_ne other]
    · rw [State.tick_alarm, Alarm.tick_of_stopped stopped]

/-! ### The cold values -/

/-- Every block at a cold start stands as the rules give it, whatever the pins, the record and the queue. -/
theorem coldStart_coldValues (pins : Pins) (otp : FactoryRecord) (fast : Bool) (free : Nat) (pending : List Instr) :
    ColdValues (State.coldStart pins otp fast free pending) := by
  have answers : ∀ i : Fin 32, (Vector.replicate 32 none : Vector (Option AnswerEntry) 32)[i] = none := by simp
  have templates : ∀ i : Fin 16, (Vector.replicate 16 none : Vector (Option Template) 16)[i] = none := by simp
  have freeCount : (State.coldStart pins otp fast free pending).freeCount = 10 := rfl
  refine ⟨⟨rfl, rfl, rfl, rfl, rfl, rfl, rfl, rfl⟩, ⟨rfl, poolCold_get_owner, freeCount⟩, ⟨rfl, answers, templates⟩,
    ⟨rfl, rfl⟩, ⟨rfl, Wlog.cold_slots_get, rfl⟩, ⟨rfl, rfl, rfl, rfl, rfl, rfl, rfl, rfl, rfl⟩,
    ⟨rfl, rfl, rfl, rfl, rfl, rfl, rfl, rfl, rfl⟩, ⟨rfl, fun k => ?_, rfl, rfl⟩, ⟨rfl, fun n => ?_⟩,
    ⟨rfl, rfl, rfl, rfl, rfl, rfl, rfl⟩, ⟨rfl, countersCold_get⟩⟩
  · simp [State.coldStart, Shed.cold]
  · simp [State.coldStart, alarmsCold, Alarm.cold]

/-- The invariants of the collections hold where every block is cold. -/
theorem reset_invariants : StoreCanonical State.reset ∧ WithinCapacity State.reset ∧ EntriesNameTemplates State.reset
    ∧ BytesFit State.reset ∧ ExecutingHasRequest State.reset ∧ NoticesOfSetFlags State.reset ∧ PrcAgrees State.reset
    ∧ TransmitAgrees State.reset ∧ DescAgrees State.reset ∧ LinkAgrees State.reset ∧ SettingsInRange State.reset
    ∧ PoolAccounted State.reset ∧ SequencesRise State.reset := by
  have noEntry : ∀ i : Fin 32, State.reset.answers[i] = none := by decide +kernel
  have noTemplate : ∀ i : Fin 16, State.reset.templates[i] = none := by decide +kernel
  refine ⟨reset_store_wf, ?capacity, ?named, ⟨?fit, by decide +kernel⟩, ?executing, ?notices, ?prc, ?transmit, ?desc,
    .inr ⟨rfl, rfl⟩, ?settings, ?pool, ?sequences⟩
  case capacity => unfold WithinCapacity; decide +kernel
  case named =>
    intro i e entry
    rw [noEntry i] at entry
    cases entry
  case fit =>
    intro id t defined
    rw [noTemplate id] at defined
    cases defined
  case executing => exact fun executing => by cases executing
  case notices => unfold NoticesOfSetFlags; decide +kernel
  case prc => unfold PrcAgrees; decide +kernel
  case transmit =>
    refine ⟨fun _ => ⟨rfl, rfl⟩, ?_, ?_⟩
    · intro leaving
      cases leaving
    · intro sending
      cases sending
  case desc => unfold DescAgrees; decide +kernel
  case settings => exact (settingsInRange_iff _).mpr Settings.default_inRange
  case pool =>
    rw [poolAccounted_iff]
    exact State.Accounted.of_cold rfl rfl rfl rfl
  case sequences => exact ⟨List.Pairwise.nil, fun q _ r among => by cases among⟩

/-- Settles O3: the machine right after reset is a cold start. -/
theorem resetHasColdValuesAndInvariants : Obligations.ResetHasColdValuesAndInvariants :=
  ⟨⟨coldStart_coldValues _ _ _ _ _, rfl⟩, reset_invariants⟩

/-- The notices at a cold reset: only FACTORY_BAD's, where the record is bad (R186, R190). -/
theorem Events.cold_notices (good : Bool) (i : Fin 16) :
    (Events.cold good).notices[i] = if good = false ∧ i = 0 then some 0 else none := by
  cases good with
  | true => simp [Events.cold]
  | false =>
    rcases eq_or_ne i 0 with rfl | other
    · simp [Events.cold]
    · have apart : (0 : Nat) ≠ i.val := fun same => other (Fin.ext same.symm)
      simp [Events.cold, other, apart]

/-- Settles O4: a cold reset is a cold start with the part's own pins and record. -/
theorem coldResetRestartsEveryBlock : Obligations.ColdResetRestartsEveryBlock := by
  intro s fast
  have good : s.otp.copy.good = true ↔
      crc16 (s.otp.station.toList ++ s.otp.serial.toList ++ [s.otp.revision]) = s.otp.check := by
    simp [FactoryRecord.copy, FactoryRecord.covered]
  exact ⟨s.coldReset fast, rfl, coldStart_coldValues _ _ _ _ _, rfl, rfl, rfl, rfl, rfl, good, rfl,
    Events.cold_notices s.otp.copy.good⟩

end Sys2Proof.Machine
end

/-! The timed rows before their time (R162): what each event does when nothing of its own is due, and O56. -/

section
namespace Sys2Proof.Machine

/-- An event that leaves its block as it found it leaves the host link alone to go on (R178, R181). -/
theorem hostAfter_congr {s u v : State} (same : u = v) :
    (Host.Outcome.next (s.hostAfter u) : Host.Outcome State Fault Refusal) = .next (s.hostAfter v) := by
  rw [same]

section
variable {s : State}

theorem State.handoverDeadlineExpires_early (early : ∀ d, s.prc.handoverDeadline = some d → s.clock < d) :
    s.handoverDeadlineExpires = s := by
  have notDue : s.handoverDeadlineDue = false := by
    unfold State.handoverDeadlineDue
    split
    · rename_i d deadline
      simp [early d deadline]
    · rfl
  rw [State.handoverDeadlineExpires, notDue, if_neg Bool.false_ne_true]

theorem State.wakeAckTimerExpires_early (early : ∀ d, s.prc.wakeAckTimer = some d → s.clock < d) :
    s.wakeAckTimerExpires = s := by
  have notDue : s.wakeAckTimerDue = false := by
    unfold State.wakeAckTimerDue
    split
    · rename_i d timer
      simp [early d timer]
    · rfl
  rw [State.wakeAckTimerExpires, notDue, if_neg Bool.false_ne_true]

theorem State.pulseEnds_early (early : ∀ d, s.prc.pulseEnd = some d → s.clock < d) : s.pulseEnds = s := by
  have notDue : s.pulseDue = false := by
    unfold State.pulseDue
    split
    · rename_i d pulse
      simp [early d pulse]
    · rfl
  rw [State.pulseEnds, notDue, if_neg Bool.false_ne_true]

theorem State.endsGap_early (early : ∀ d, s.txq.transmitter = .gap d → s.clock < d) : s.endsGap = s := by
  have notDue : s.gapDue = false := by
    unfold State.gapDue
    split
    · rename_i d gap
      simp [early d gap]
    · rfl
    · rfl
  rw [State.endsGap, notDue, if_neg Bool.false_ne_true]

/-- The start condition holds just for an IDLE transmitter, the link UP, the line the part's and a reply waiting (R82). -/
theorem State.startCondition_iff (s : State) : s.startCondition = true ↔
    s.txq.transmitter = .idle ∧ (∃ c, s.lmon.link = .up c) ∧ s.txq.queue ≠ [] ∧ s.lineSelPart = true := by
  unfold State.startCondition
  split
  · rename_i c idle up
    simp [idle, up]
  · rename_i other
    simp only [Bool.false_eq_true, false_iff]
    rintro ⟨idle, ⟨c, up⟩, -⟩
    exact other c idle up

theorem State.startsTransmission_without (without : s.txq.queue = [] ∨ s.lineSelPart = false ∨ s.txq.transmitter ≠ .idle
    ∨ ∀ c, s.lmon.link ≠ .up c) : s.startsTransmission = s := by
  have noStart : ¬s.startCondition = true := by
    rw [State.startCondition_iff]
    rintro ⟨idle, ⟨c, up⟩, waiting, line⟩
    obtain empty | other | busy | notUp := without
    · exact waiting empty
    · rw [line] at other
      cases other
    · exact busy idle
    · exact notUp c up
  rw [State.startsTransmission, if_neg noStart]

theorem State.endsTransmission_without (silent : s.phyTxen = false) : s.endsTransmission = s := by
  unfold State.phyTxen at silent
  unfold State.endsTransmission
  cases transmitter : s.txq.transmitter
  case sending => simp [transmitter] at silent
  all_goals rfl

theorem State.checksumPassEnds_without (other : s.desc.state ≠ .summing) : s.checksumPassEnds = s := by
  simp [State.checksumPassEnds, other]

theorem State.clearingPassEnds_without (other : s.desc.state ≠ .clearing) : s.clearingPassEnds = s := by
  simp [State.clearingPassEnds, other]

theorem State.verifyPassEnds_without (other : s.desc.state ≠ .verifying) : s.verifyPassEnds = s := by
  rw [State.verifyPassEnds_eq, if_neg other]

theorem State.holdDownEnds_early (early : s.desc.holdDownEnd ≠ some s.time) : s.holdDownEnds = s := by
  simp [State.holdDownEnds, State.holdDownDue, early]

theorem State.sidebandStalls_early
    (early : ∀ x, s.desc.transaction = some x → s.time.since x.start < x.stallMs * 1000) : s.sidebandStalls = s := by
  have notDue : s.stallDue = false := by
    unfold State.stallDue
    split
    · rename_i x inProgress
      exact decide_eq_false (Nat.not_le.mpr (early x inProgress))
    · rfl
  rw [State.sidebandStalls, notDue, if_neg Bool.false_ne_true]

theorem State.settles_early (early : ∀ c, s.lmon.link ≠ .settling c s.time) : s.settles = s := by
  unfold State.settles
  split
  · rename_i c e settling
    have notDue : s.settleDue = false := by
      unfold State.settleDue
      rw [settling]
      simp only [beq_eq_false_iff_ne]
      rintro rfl
      exact early c settling
    rw [notDue, if_neg Bool.false_ne_true]
  · rfl
  · rfl

theorem State.quarantineEnds_early (early : s.lmon.quarantineEnd ≠ some s.time) : s.quarantineEnds = s := by
  simp [State.quarantineEnds, State.quarantineDue, early]

theorem State.takeMeasurement_early (early : s.lmon.intervalEnd ≠ s.time) (cycles : Nat) :
    s.takeMeasurement cycles = s := by
  simp [State.takeMeasurement, State.measurementDue, early]

theorem State.windowEnds_early (early : s.time.since s.shed.windowStart < s.shed.windowMs * 1000) :
    s.windowEnds = s := by
  have notDue : s.windowDue = false := by
    exact decide_eq_false (Nat.not_le.mpr early)
  rw [State.windowEnds, notDue, if_neg Bool.false_ne_true]

theorem State.alarmExpires_early {n : Fin 4} (early : s.alarms[n].state ≠ .running 0) : s.alarmExpires n = s := by
  have notDue : s.alarmDue n = false := by
    unfold State.alarmDue
    simpa using early
  rw [State.alarmExpires, notDue, if_neg Bool.false_ne_true]

theorem State.gapLimitPasses_early (early : ∀ last limit, (s.link.assembler = .length last limit
    ∨ ∃ len taken, s.link.assembler = .gather len taken last limit) → s.clock < last + limit) :
    s.gapLimitPasses = s := by
  have notDue : s.gapTimeoutDue = false := by
    unfold State.gapTimeoutDue
    split
    · rfl
    · rename_i last limit atLength
      simpa using early last limit (.inl atLength)
    · rename_i len taken last limit atGather
      simpa using early last limit (.inr ⟨len, taken, atGather⟩)
  rw [State.gapLimitPasses, notDue, if_neg Bool.false_ne_true]

end

/-- Settles O56: each row's event does nothing before its time. -/
theorem timedRowsWaitForTheirTime : Obligations.TimedRowsWaitForTheirTime := by
  intro s
  exact ⟨fun early => hostAfter_congr (State.handoverDeadlineExpires_early early),
    fun early => hostAfter_congr (State.wakeAckTimerExpires_early early),
    fun early => congrArg _ (State.pulseEnds_early early),
    fun early => congrArg _ (State.endsGap_early early),
    fun without => congrArg _ (State.startsTransmission_without without),
    fun silent => hostAfter_congr (State.endsTransmission_without silent),
    fun other => hostAfter_congr (State.checksumPassEnds_without other),
    fun other => hostAfter_congr (State.clearingPassEnds_without other),
    fun other => hostAfter_congr (State.verifyPassEnds_without other),
    fun early => congrArg _ (State.holdDownEnds_early early),
    fun early => hostAfter_congr (State.sidebandStalls_early early),
    fun early => hostAfter_congr (State.settles_early early),
    fun early => congrArg _ (State.quarantineEnds_early early),
    fun cycles early => hostAfter_congr (State.takeMeasurement_early early cycles),
    fun early => hostAfter_congr (State.windowEnds_early early),
    fun n early => hostAfter_congr (State.alarmExpires_early early),
    fun early => hostAfter_congr (State.gapLimitPasses_early early)⟩

end Sys2Proof.Machine
end

/-! Requests on a link at rest that change one block or nothing: identity, status, link, counters, flags and DESC_OPEN
(R39, R40, R112, R147, R184, R185, R190, R191); O22, O24 and O31. -/

section
namespace Sys2Proof.Machine

/-! ### A request that leaves the flags alone -/

theorem HostReady.quiet {s : State} (ready : HostReady s) : s.events.firstPending = none := by
  obtain ⟨-, -, -, -, -, noNotice⟩ := ready
  exact noNotice

/-- A request answered at once whose owner touches neither the host link nor the flags. -/
theorem takeRequest_answers_keeping {s u : State} {m : Message} {st : Status} {fields : List Byte} (ready : HostReady s)
    (run : runKind m.kind m.body (s.awaiting m) = u.respond st fields) (link : u.link = (s.awaiting m).link)
    (events : u.events = s.events) :
    s.takeRequest m = { u with link := s.link }.answered (responseKind m.kind) m.tag (st.code :: fields) :=
  takeRequest_answers ready run link (by rw [events]; exact ready.quiet)

/-- No notice is pending where there is none of any flag (R183). -/
theorem Events.firstPending_eq_none_iff (e : Events) : e.firstPending = none ↔ ∀ i : Fin 16, e.notices[i] = none := by
  simp [Events.firstPending, List.find?_eq_none]

/-! ### Identity, status and link -/

section
variable {s : State}

/-- A good record is identified whole (R190). -/
theorem runIdentify_of_good (good : s.factory.good = true) : runIdentify [] s = s.respond .ok
    ([0x41, 0x20, s.factory.revision, 0, 1] ++ s.factory.station.toList ++ s.factory.serial.toList) := by
  have code : bytesBE 2 Config.partCode = [0x41, 0x20] := rfl
  simp [runIdentify, good, FactoryCopy.statusCode, flagByte, code]

/-- Of a bad record the part code alone is given (R190). -/
theorem runIdentify_of_bad (bad : s.factory.good = false) :
    runIdentify [] s = s.respond .ok ([0x41, 0x20, 0, 1, 0] ++ List.replicate 14 0) := by
  have code : bytesBE 2 Config.partCode = [0x41, 0x20] := rfl
  simp [runIdentify, bad, FactoryCopy.statusCode, flagByte, code]

/-- LINK_GET with its items written out (R147). -/
theorem runLinkGet_eq (s : State) : runLinkGet [] s = s.respond .ok
    ([s.lmon.link.code, if s.lmon.quarantineEnd.isSome then 1 else 0]
      ++ bytesBE 2 (match s.lmon.quarantineEnd with
        | some e => ((e - s.time).toNat + 999) / 1000
        | none => 0)
      ++ bytesBE 2 (match s.lmon.link with
        | .settling _ e => ((e - s.time).toNat + 999) / 1000
        | _ => 0)
      ++ (match s.lmon.latest with
        | none => [0, 0] ++ (0 :: bytesBE 4 0) ++ [0, 0]
        | some m => [1, rateClassCode (classOf m.value)] ++ (1 :: bytesBE 4 m.value)
            ++ [1, BitVec.ofNat 8 (min 9 ((s.time - m.time).toNat / 1000))])
      ++ (match s.lmon.reference with
        | none => 0 :: bytesBE 4 0
        | some r => 1 :: bytesBE 4 r)
      ++ bytesBE 2 s.lmon.recenters.toNat ++ [if s.lmon.firstUp then 1 else 0]) := by
  have age : ∀ n, bytesBE 1 n = [BitVec.ofNat 8 n] := fun n => by simp [bytesBE]
  have latest : optBytes 1 (s.lmon.latest.map fun m => (rateClassCode (classOf m.value)).toNat)
      ++ (optBytes 4 (s.lmon.latest.map Measured.value) ++ optBytes 1 (s.lmon.latest.map s.measurementAge))
      = match s.lmon.latest with
        | none => [0, 0] ++ (0 :: bytesBE 4 0) ++ [0, 0]
        | some m => [1, rateClassCode (classOf m.value)] ++ (1 :: bytesBE 4 m.value)
            ++ [1, BitVec.ofNat 8 (min 9 ((s.time - m.time).toNat / 1000))] := by
    cases s.lmon.latest with
    | none => rfl
    | some m => simp [optBytes, age, State.measurementAge, Config.usPerMs]
  have reference : optBytes 4 s.lmon.reference = match s.lmon.reference with
      | none => 0 :: bytesBE 4 0
      | some r => 1 :: bytesBE 4 r := by
    cases s.lmon.reference <;> rfl
  rw [← latest, ← reference]
  simp only [runLinkGet, flagByte, List.append_assoc]
  cases s.lmon.quarantineEnd <;> cases s.lmon.link <;> rfl

end

/-- Settles O22: each answers what its owner's items are, and nothing of the state changes. -/
theorem identifyStatusAndLinkGet : Obligations.IdentifyStatusAndLinkGet := by
  refine ⟨fun s tag ready => ⟨fun good => ?_, fun bad => ?_⟩, fun s tag ready => ?_, fun s tag ready =>
    ⟨_, _, rfl, rfl, ?_⟩⟩
  · exact congrArg _ (takeRequest_answers_unchanged (m := ⟨0x01, tag, []⟩) ready
      (runIdentify_of_good (s := s.awaiting ⟨0x01, tag, []⟩) good))
  · exact congrArg _ (takeRequest_answers_unchanged (m := ⟨0x01, tag, []⟩) ready
      (runIdentify_of_bad (s := s.awaiting ⟨0x01, tag, []⟩) bad))
  · exact congrArg _ (takeRequest_answers_unchanged (m := ⟨0x02, tag, []⟩) ready rfl)
  · exact congrArg _ (takeRequest_answers_unchanged (m := ⟨0x1F, tag, []⟩) ready
      (runLinkGet_eq (s.awaiting ⟨0x1F, tag, []⟩)))

/-! ### Counters and flags -/

/-- With no notice pending the pending set is empty (R184). -/
theorem Events.pendingSet_of_none {e : Events} (none_pending : ∀ i : Fin 16, e.notices[i] = none) : e.pendingSet = 0 := by
  have unset : ∀ (flags : List (Fin 16)) (m : Half),
      flags.foldl (fun m i => if e.notices[i].isSome then m ||| flagBit i else m) m = m := by
    intro flags
    induction flags with
    | nil => exact fun _ => rfl
    | cons i rest ih =>
      intro m
      rw [List.foldl_cons, none_pending i]
      exact ih m
  exact unset _ _

/-- Notices dropped from none leave none (R183). -/
theorem Events.dropNotices_of_none {e : Events} (none_pending : ∀ i : Fin 16, e.notices[i] = none) (m : Half)
    (i : Fin 16) : (e.dropNotices m)[i] = none := by
  have same := none_pending i
  rw [Events.dropNotices_get, same]
  split <;> rfl

/-- EVENTS_GET where no notice is pending (R184). -/
theorem runEventsGet_of_quiet {s : State} (quiet : s.events.firstPending = none) : runEventsGet [] s =
    s.respond .ok (bytesBE 2 s.events.flags.toNat ++ bytesBE 2 s.events.mask.toNat ++ bytesBE 2 0) := by
  have empty := Events.pendingSet_of_none ((Events.firstPending_eq_none_iff _).mp quiet)
  simp [runEventsGet, empty]

/-- EVENTS_CLEAR as a command on a link at rest (R184). -/
theorem exec_eventsClear {s : State} (tag m1 m0 : Byte) (ready : HostReady s) :
    exec (.eventsClear tag [m1, m0]) s = .next ({ s with events := s.events.clear (m1 ++ m0) }.answered 0x9A tag
      (0 :: bytesBE 2 (s.events.clear (m1 ++ m0)).flags.toNat)) := by
  have none_pending := (Events.firstPending_eq_none_iff _).mp ready.quiet
  have quiet : (s.events.clear (m1 ++ m0)).firstPending = none :=
    (Events.firstPending_eq_none_iff _).mpr (Events.dropNotices_of_none none_pending (m1 ++ m0))
  exact congrArg _ (takeRequest_answers (m := ⟨0x1A, tag, [m1, m0]⟩) (st := .ok)
    (u := { s.awaiting ⟨0x1A, tag, [m1, m0]⟩ with events := s.events.clear (m1 ++ m0) }) ready rfl rfl quiet)

/-- NOTICE_MASK as a command on a link at rest (R185). -/
theorem exec_noticeMask {s : State} (tag m1 m0 : Byte) (ready : HostReady s) :
    exec (.noticeMask tag [m1, m0]) s = .next ({ s with events := s.events.setMask (m1 ++ m0) }.answered 0x9B tag
      (0 :: bytesBE 2 s.events.mask.toNat)) := by
  have none_pending := (Events.firstPending_eq_none_iff _).mp ready.quiet
  have quiet : (s.events.setMask (m1 ++ m0)).firstPending = none :=
    (Events.firstPending_eq_none_iff _).mpr (Events.dropNotices_of_none none_pending (~~~(m1 ++ m0)))
  exact congrArg _ (takeRequest_answers (m := ⟨0x1B, tag, [m1, m0]⟩) (st := .ok)
    (u := { s.awaiting ⟨0x1B, tag, [m1, m0]⟩ with events := s.events.setMask (m1 ++ m0) }) ready rfl rfl quiet)

/-- Settles O24: the bank and the flags by what their owners give. -/
theorem counterAndEventRequests : Obligations.CounterAndEventRequests := by
  refine ⟨fun s tag ready => ⟨?get, ?clear⟩, fun s tag m1 m0 ready => ⟨?flags, ?eventsClear, ?noticeMask⟩⟩
  case get => exact congrArg _ (takeRequest_answers_unchanged (m := ⟨0x17, tag, []⟩) ready rfl)
  case clear =>
    exact congrArg _ (takeRequest_answers_keeping (m := ⟨0x18, tag, []⟩) (st := .ok)
      (u := (s.awaiting ⟨0x18, tag, []⟩).clearCounters) ready rfl rfl rfl)
  case flags =>
    exact congrArg _ (takeRequest_answers_unchanged (m := ⟨0x19, tag, []⟩) ready
      (runEventsGet_of_quiet (s := s.awaiting ⟨0x19, tag, []⟩) ready.quiet))
  case eventsClear =>
    have none_pending := (Events.firstPending_eq_none_iff _).mp ready.quiet
    exact ⟨_, exec_eventsClear tag m1 m0 ready, rfl, rfl, rfl, Events.dropNotices_of_none none_pending _⟩
  case noticeMask =>
    have none_pending := (Events.firstPending_eq_none_iff _).mp ready.quiet
    exact ⟨_, exec_noticeMask tag m1 m0 ready, rfl, rfl, rfl, Events.dropNotices_of_none none_pending _⟩

/-! ### DESC_OPEN -/

/-- DESC_OPEN as a command on a link at rest, where its owner answers it at once (R112). -/
theorem exec_descOpen_answers {s : State} {d : Desc} {tag : Byte} {st : Status} {fields : List Byte} (ready : HostReady s)
    (run : runDescOpen [] (s.awaiting ⟨0x11, tag, []⟩)
      = { s.awaiting ⟨0x11, tag, []⟩ with desc := d }.respond st fields) :
    exec (.descOpen tag []) s = .next ({ s with desc := d }.answered 0x91 tag (st.code :: fields)) :=
  congrArg _ (takeRequest_answers_keeping (m := ⟨0x11, tag, []⟩) ready run rfl rfl)

/-- Settles O31, by the descriptor state. -/
theorem descOpenByState : Obligations.DescOpenByState := by
  intro s tag ready
  refine ⟨?opens, fun holdDown => ?_, fun published free => ?_, fun x published inProgress => ?_, ?pass⟩
  case opens =>
    rintro (empty | faulted | editing)
    · refine exec_descOpen_answers (st := .ok) ready ?_
      simp [runDescOpen, State.awaiting, empty]
    · refine exec_descOpen_answers (st := .ok) ready ?_
      simp [runDescOpen, State.awaiting, faulted]
    · have same : { s.desc with state := .editing } = s.desc := by rw [← editing]
      rw [same]
      refine exec_descOpen_answers (d := s.desc) (st := .ok) ready ?_
      simp [runDescOpen, State.awaiting, editing]
  case pass =>
    rintro (clearing | summing | verifying)
    · refine exec_descOpen_answers (d := s.desc) (st := .busy) ready ?_
      simp [runDescOpen, State.awaiting, clearing]
    · refine exec_descOpen_answers (d := s.desc) (st := .busy) ready ?_
      simp [runDescOpen, State.awaiting, summing]
    · refine exec_descOpen_answers (d := s.desc) (st := .busy) ready ?_
      simp [runDescOpen, State.awaiting, verifying]
  · refine exec_descOpen_answers (st := .ok) ready ?_
    simp [runDescOpen, State.awaiting, holdDown, DescState.code]
  · refine exec_descOpen_answers (st := .ok) ready ?_
    simp [runDescOpen, State.awaiting, published, free, State.leavePublished, DescState.code]
  · refine congrArg _ (takeRequest_awaits (m := ⟨0x11, tag, []⟩) (u := { s.awaiting ⟨0x11, tag, []⟩ with
      desc := { s.desc with deferred := .descOpen } }) ready ?_ rfl ready.quiet)
    simp [runKind, runDescOpen, State.awaiting, published, inProgress]

end Sys2Proof.Machine
end

/-! Numbers in bytes (R194) and the setting requests (R154, R187); O23. -/

section
namespace Sys2Proof.Machine

/-! ### Numbers in bytes -/

/-- A half in two bytes (R194). -/
theorem bytesBE_two (n : Nat) : bytesBE 2 n = [BitVec.ofNat 8 (n / 256), BitVec.ofNat 8 n] := by
  simp [bytesBE]

/-- The two bytes of a half, joined again (R194). -/
theorem append_bytes_of_half (h : Half) :
    (BitVec.ofNat 8 (h.toNat / 256) ++ BitVec.ofNat 8 h.toNat : BitVec (8 + 8)) = h := by
  apply BitVec.eq_of_toNat_eq
  have bound : h.toNat < 65536 := h.isLt
  have low : h.toNat % 256 < 2 ^ 8 := Nat.mod_lt _ (by decide)
  have high : h.toNat / 256 % 256 = h.toNat / 256 := Nat.mod_eq_of_lt (by omega)
  simp only [BitVec.toNat_append, BitVec.toNat_ofNat, Nat.reducePow, high]
  rw [← Nat.shiftLeft_add_eq_or_of_lt low, Nat.shiftLeft_eq]
  omega

/-- Two bytes that hold a number below 65536 give it back (R194). -/
theorem ofBytesBE_two {n : Nat} (small : n < 65536) :
    ofBytesBE [BitVec.ofNat 8 (n / 256), BitVec.ofNat 8 n] = n := by
  simp only [ofBytesBE, List.foldl_cons, List.foldl_nil, BitVec.toNat_ofNat]
  omega

/-- The number of four bytes, in four bytes again (R194). -/
theorem bytesBE_ofBytesBE_four (b3 b2 b1 b0 : Byte) : bytesBE 4 (ofBytesBE [b3, b2, b1, b0]) = [b3, b2, b1, b0] := by
  have h3 := b3.isLt
  have h2 := b2.isLt
  have h1 := b1.isLt
  have h0 := b0.isLt
  simp only [ofBytesBE, List.foldl_cons, List.foldl_nil, bytesBE, List.cons.injEq, and_true]
  refine ⟨?_, ?_, ?_, ?_⟩ <;>
    · apply BitVec.eq_of_toNat_eq
      rw [BitVec.toNat_ofNat]
      omega

theorem yesNo_flagByte (b : Bool) : yesNo (flagByte b) = some b := by
  cases b <;> rfl

/-- A byte of 2 or more is no yes/no field (R194). -/
theorem yesNo_eq_none {b : Byte} (large : 1 < b.toNat) : yesNo b = none := by
  have notZero : b ≠ 0 := by rintro rfl; simp at large
  have notOne : b ≠ 1 := by rintro rfl; simp at large
  rw [yesNo, if_neg notZero, if_neg notOne]

/-! ### Which setting an identifier names -/

/-- A number setting is no tier (R187). -/
theorem tierOf_of_range {id lo hi : Nat} (range : settingRange id = some (lo, hi)) : tierOf id = none := by
  unfold settingRange at range
  split at range <;> first | rfl | cases range

theorem tierOf_of_number {table : Settings} {id n : Nat} (number : table.number id = some n) : tierOf id = none := by
  unfold Settings.number at number
  split at number <;> first | rfl | cases number

theorem tierOf_tier {id : Nat} (k : Fin 4) (named : id = 14 + k.val) : tierOf id = some k := by
  subst named
  fin_cases k <;> rfl

/-- An identifier outside 1..20 names no setting (R187). -/
theorem Settings.value_of_unknown (table : Settings) {id : Nat} (unknown : id = 0 ∨ 20 < id) : table.value id = none := by
  have noTier : tierOf id = none := by
    unfold tierOf
    rw [if_neg (by omega), if_neg (by omega), if_neg (by omega), if_neg (by omega)]
  have noNumber : table.number id = none := by
    unfold Settings.number
    split <;> first | omega | rfl
  simp [Settings.value, noTier, noNumber]

theorem Settings.value_of_number {table : Settings} {id n : Nat} (number : table.number id = some n) :
    table.value id = some (bytesBE 4 n) := by
  simp [Settings.value, tierOf_of_number number, number]

theorem Settings.value_of_tier (table : Settings) {id : Nat} (k : Fin 4) (named : id = 14 + k.val) :
    table.value id = some table.tiers[k].bytes := by
  simp [Settings.value, tierOf_tier k named]

/-! ### What a setting takes -/

/-- A number in its range is taken (R187). -/
theorem Settings.write_of_range (table : Settings) {id lo hi : Nat} {b3 b2 b1 b0 : Byte}
    (range : settingRange id = some (lo, hi)) (low : lo ≤ ofBytesBE [b3, b2, b1, b0])
    (high : ofBytesBE [b3, b2, b1, b0] ≤ hi) :
    table.write id b3 b2 b1 b0 = some (table.setNumber id (ofBytesBE [b3, b2, b1, b0])) := by
  simp [Settings.write, tierOf_of_range range, range, low, high]

/-- A number outside its range is not taken (R187). -/
theorem Settings.write_of_outside (table : Settings) {id lo hi : Nat} {b3 b2 b1 b0 : Byte}
    (range : settingRange id = some (lo, hi))
    (outside : ofBytesBE [b3, b2, b1, b0] < lo ∨ hi < ofBytesBE [b3, b2, b1, b0]) :
    table.write id b3 b2 b1 b0 = none := by
  have refused : ¬(lo ≤ ofBytesBE [b3, b2, b1, b0] ∧ ofBytesBE [b3, b2, b1, b0] ≤ hi) := by omega
  simp only [Settings.write, tierOf_of_range range, range, if_neg refused]

/-- A tier in its bytes, with its fields in range, is read back (R154, R194). -/
theorem Tier.ofBytes_bytes {tier : Tier} {b0 b1 b2 b3 : Byte} (bytes : tier.bytes = [b0, b1, b2, b3])
    (low : 1 ≤ tier.threshold) (high : tier.threshold ≤ 65535) (level : tier.level ≠ 0) :
    Tier.ofBytes b0 b1 b2 b3 = some tier := by
  obtain ⟨enabled, source, threshold, lev⟩ := tier
  simp only [Tier.bytes, bytesBE_two, List.cons_append, List.nil_append, List.cons.injEq, and_true] at bytes
  obtain ⟨rfl, rfl, rfl, rfl⟩ := bytes
  have sourceLt := source.isLt
  have levelLt := lev.isLt
  have levelPos : lev.val ≠ 0 := fun zero => level (Fin.ext zero)
  have packed : (BitVec.ofNat 8 (source.val * 16 + lev.val)).toNat = source.val * 16 + lev.val :=
    by rw [BitVec.toNat_ofNat, Nat.mod_eq_of_lt (by omega)]
  have value : ofBytesBE [BitVec.ofNat 8 (threshold / 256), BitVec.ofNat 8 threshold] = threshold :=
    ofBytesBE_two (Nat.lt_succ_of_le high)
  have sourceOf : (source.val * 16 + lev.val) / 16 = source.val := by omega
  have levelOf : (source.val * 16 + lev.val) % 16 = lev.val := by omega
  have inRange : source.val < 4 ∧ 1 ≤ lev.val ∧ lev.val < 4 ∧ 1 ≤ threshold := ⟨sourceLt, by omega, levelLt, low⟩
  simp only [Tier.ofBytes, yesNo_flagByte, packed, value, sourceOf, levelOf, inRange, and_self, dite_true]

/-- Four bytes one of whose fields is out of range give no tier (R154). -/
theorem Tier.ofBytes_eq_none {b0 b1 b2 b3 : Byte} (bad : 1 < b0.toNat ∨ 3 < b1.toNat / 16 ∨ b1.toNat % 16 = 0
    ∨ 3 < b1.toNat % 16 ∨ ofBytesBE [b2, b3] = 0) : Tier.ofBytes b0 b1 b2 b3 = none := by
  obtain enable | fields := bad
  · simp [Tier.ofBytes, yesNo_eq_none enable]
  · have refused : ¬(b1.toNat / 16 < 4 ∧ 1 ≤ b1.toNat % 16 ∧ b1.toNat % 16 < 4 ∧ 1 ≤ ofBytesBE [b2, b3]) := by omega
    unfold Tier.ofBytes
    split
    · rfl
    · exact dif_neg refused

/-! ### The requests on a link at rest -/

section
variable {s : State} {id b3 b2 b1 b0 : Byte}

/-- SETTING_SET of a value its setting takes (R187). -/
theorem runSettingSet_takes {table : Settings} {before : List Byte} (value : s.settings.value id.toNat = some before)
    (write : s.settings.write id.toNat b3 b2 b1 b0 = some table) :
    runSettingSet [id, b3, b2, b1, b0] s = { s with settings := table }.respond .ok (id :: before) := by
  simp only [runSettingSet, value, write]

/-- SETTING_SET of a value no setting takes is BAD_ARGUMENT (R187). -/
theorem runSettingSet_refused
    (refused : s.settings.value id.toNat = none ∨ s.settings.write id.toNat b3 b2 b1 b0 = none) :
    runSettingSet [id, b3, b2, b1, b0] s = s.respond .badArgument [] := by
  unfold runSettingSet
  dsimp only
  split
  · rename_i value write
    obtain noValue | noWrite := refused
    · cases noValue.symm.trans value
    · cases noWrite.symm.trans write
  · rfl

theorem runSettingGet_of_value {value : List Byte} (stands : s.settings.value id.toNat = some value) :
    runSettingGet [id] s = s.respond .ok (id :: value) := by
  simp only [runSettingGet, stands]

theorem runSettingGet_unknown (unknown : s.settings.value id.toNat = none) :
    runSettingGet [id] s = s.respond .badArgument [] := by
  simp only [runSettingGet, unknown]

/-! ### The same as commands, on a link at rest -/

theorem exec_settingSet_takes {table : Settings} {before : List Byte} (tag : Byte) (ready : HostReady s)
    (value : s.settings.value id.toNat = some before)
    (write : s.settings.write id.toNat b3 b2 b1 b0 = some table) :
    exec (.settingSet tag [id, b3, b2, b1, b0]) s =
      .next ({ s with settings := table }.answered 0x84 tag (0 :: id :: before)) :=
  congrArg _ (takeRequest_answers_keeping (m := ⟨0x04, tag, [id, b3, b2, b1, b0]⟩) ready
    (runSettingSet_takes (s := s.awaiting ⟨0x04, tag, [id, b3, b2, b1, b0]⟩) value write) rfl rfl)

theorem exec_settingSet_refused (tag : Byte) (ready : HostReady s)
    (refused : s.settings.value id.toNat = none ∨ s.settings.write id.toNat b3 b2 b1 b0 = none) :
    exec (.settingSet tag [id, b3, b2, b1, b0]) s = .next (s.answered 0x84 tag [3]) :=
  congrArg _ (takeRequest_answers_unchanged (m := ⟨0x04, tag, [id, b3, b2, b1, b0]⟩) ready
    (runSettingSet_refused (s := s.awaiting ⟨0x04, tag, [id, b3, b2, b1, b0]⟩) refused))

theorem exec_settingGet {value : List Byte} (tag : Byte) (ready : HostReady s)
    (stands : s.settings.value id.toNat = some value) :
    exec (.settingGet tag [id]) s = .next (s.answered 0x85 tag (0 :: id :: value)) :=
  congrArg _ (takeRequest_answers_unchanged (m := ⟨0x05, tag, [id]⟩) ready
    (runSettingGet_of_value (s := s.awaiting ⟨0x05, tag, [id]⟩) stands))

theorem exec_settingGet_unknown (tag : Byte) (ready : HostReady s) (unknown : s.settings.value id.toNat = none) :
    exec (.settingGet tag [id]) s = .next (s.answered 0x85 tag [3]) :=
  congrArg _ (takeRequest_answers_unchanged (m := ⟨0x05, tag, [id]⟩) ready
    (runSettingGet_unknown (s := s.awaiting ⟨0x05, tag, [id]⟩) unknown))

end

/-- A tier in its four bytes, with its nibbles as the manual writes them (R194). -/
theorem Tier.bytes_eq (tier : Tier) : tier.bytes = [if tier.enabled then 1 else 0,
    BitVec.ofNat 8 (16 * tier.source.val + tier.level.val)] ++ bytesBE 2 tier.threshold := by
  rw [Nat.mul_comm]
  rfl

/-- Settles O23: the ranges and defaults row by row, then each request by what its identifier names. -/
theorem settingRequests : Obligations.SettingRequests := by
  refine ⟨⟨by decide +kernel, fun id low high => ?defaultTier⟩, fun s tag id b0 b1 b2 b3 lo hi before ready range low high
    value => ?setNumber, fun s tag id b0 b1 b2 b3 ready => ⟨fun k tier named bytes thresholdLow thresholdHigh level =>
    ?setTier, fun n number => ?getNumber, fun k named => ⟨Tier.bytes_eq _, ?getTier⟩, fun unknown => ?unknown,
    fun lo hi range outside => ?numberOutside, fun low high bad => ?tierOutside⟩⟩
  case defaultTier => interval_cases id <;> rfl
  case setNumber =>
    have number := fun j => Settings.number_setNumber s.settings range (ofBytesBE [b0, b1, b2, b3]) j
    refine ⟨_, exec_settingSet_takes tag ready value (Settings.write_of_range _ range low high), ?_, fun j other => ?_,
      Settings.setNumber_tiers _ _ _, fun u uReady table => ?_⟩
    · rw [number, if_pos rfl]
    · rw [number, if_neg other]
    · have stands : u.settings.value id.toNat = some [b0, b1, b2, b3] := by
        have written : u.settings.number id.toNat = some (ofBytesBE [b0, b1, b2, b3]) := by
          rw [table, number, if_pos rfl]
        rw [Settings.value_of_number written, bytesBE_ofBytesBE_four]
      exact exec_settingGet tag uReady stands
  case setTier =>
    refine exec_settingSet_takes tag ready (Settings.value_of_tier _ k named) ?_
    simp [Settings.write, tierOf_tier k named, Tier.ofBytes_bytes bytes thresholdLow thresholdHigh level]
  case getNumber => exact exec_settingGet tag ready (Settings.value_of_number number)
  case getTier => exact exec_settingGet tag ready (Settings.value_of_tier _ k named)
  case unknown =>
    have none_value := Settings.value_of_unknown s.settings unknown
    exact ⟨exec_settingSet_refused tag ready (.inl none_value), exec_settingGet_unknown tag ready none_value⟩
  case numberOutside => exact exec_settingSet_refused tag ready (.inr (Settings.write_of_outside _ range outside))
  case tierOutside =>
    obtain ⟨k, named⟩ : ∃ k : Fin 4, id.toNat = 14 + k.val := ⟨⟨id.toNat - 14, by omega⟩, by simp; omega⟩
    refine exec_settingSet_refused tag ready (.inr ?_)
    simp [Settings.write, tierOf_tier k named, Tier.ofBytes_eq_none bad]

end Sys2Proof.Machine
end

/-! The forms of the host link's bodies read back (R194), and the requests of the filter list, the answer table and the
templates (R47, R72 to R77); O26, O28 and O30. -/

section
namespace Sys2Proof.Machine

/-! ### Terms and operations in bytes -/

/-- Terms in their bytes are read back (R194). -/
theorem readTerms_flatMap (terms : List Term) : readTerms terms.length (terms.flatMap Term.bytes) = some terms := by
  induction terms with
  | nil => rfl
  | cons t rest ih =>
    obtain ⟨offset, ⟨v0, v1, v2, v3⟩, ⟨m0, m1, m2, m3⟩⟩ := t
    simp [Term.bytes, Quad.bytes, readTerms, ih]

/-- Terms are read just from nine bytes each (R180). -/
theorem readTerms_isSome_iff : ∀ (n : Nat) (bytes : List Byte), (readTerms n bytes).isSome = true ↔ bytes.length = 9 * n
  | 0, [] => by simp [readTerms]
  | 0, _ :: _ => by simp [readTerms]
  | n + 1, bytes => by
    unfold readTerms
    split
    · rename_i hn
      cases hn
    · rename_i hn
      cases hn
    · rename_i k o v0 v1 v2 v3 m0 m1 m2 m3 rest hn
      cases hn
      rw [Option.isSome_map, readTerms_isSome_iff n rest]
      simp only [List.length_cons]
      omega
    · rename_i bytes _ _ _ _ short
      simp only [Option.isSome_none, Bool.false_eq_true, false_iff]
      intro length
      match bytes, length with
      | o :: v0 :: v1 :: v2 :: v3 :: m0 :: m1 :: m2 :: m3 :: rest, _ =>
        exact short o v0 v1 v2 v3 m0 m1 m2 m3 rest rfl

/-- Operations in their bytes are read back (R194). -/
theorem readOps_flatMap (ops : List Quad) : readOps ops.length (ops.flatMap Quad.bytes) = some ops := by
  induction ops with
  | nil => rfl
  | cons q rest ih => simp [Quad.bytes, readOps, ih]

/-- Operations are read just from four bytes each (R180). -/
theorem readOps_isSome_iff : ∀ (n : Nat) (bytes : List Byte), (readOps n bytes).isSome = true ↔ bytes.length = 4 * n
  | 0, [] => by simp [readOps]
  | 0, _ :: _ => by simp [readOps]
  | n + 1, bytes => by
    unfold readOps
    split
    · rename_i hn
      cases hn
    · rename_i hn
      cases hn
    · rename_i k a b c d rest hn
      cases hn
      rw [Option.isSome_map, readOps_isSome_iff n rest]
      simp only [List.length_cons]
      omega
    · rename_i bytes _ _ _ _ short
      simp only [Option.isSome_none, Bool.false_eq_true, false_iff]
      intro length
      match bytes, length with
      | a :: b :: c :: d :: rest, _ => exact short a b c d rest rfl

/-- The count of a pattern with at most eight terms fits its byte (R44). -/
theorem pattern_count {p : List Term} (wellFormed : patternWellFormed p = true) :
    (BitVec.ofNat 8 p.length : Byte).toNat = p.length := by
  have short : p.length ≤ 8 := by
    simp only [patternWellFormed, Bool.and_eq_true, decide_eq_true_eq] at wellFormed
    exact wellFormed.1.2
  rw [BitVec.toNat_ofNat, Nat.mod_eq_of_lt (by omega)]

/-! ### Codes -/

theorem FilterAction.ofCode_code (a : FilterAction) : FilterAction.ofCode a.code = some a := by
  cases a <;> rfl

theorem AnswerClass.ofCode_code (c : AnswerClass) : AnswerClass.ofCode c.code = some c := by
  cases c <;> rfl

theorem CopySource.ofCode_code (c : CopySource) : CopySource.ofCode c.code = some c := by
  cases c <;> rfl

/-- A byte above 2 is no code of an action (R194). -/
theorem FilterAction.ofCode_isSome_iff (b : Byte) : (FilterAction.ofCode b).isSome = true ↔ b.toNat ≤ 2 := by
  have codes : b.toNat ≤ 2 ↔ b = 0 ∨ b = 1 ∨ b = 2 := by bv_omega
  rw [codes]
  unfold FilterAction.ofCode
  split
  · simp [*]
  · split
    · simp [*]
    · split
      · simp [*]
      · simp only [Option.isSome_none, Bool.false_eq_true, *, or_self]

theorem AnswerClass.ofCode_isSome_iff (b : Byte) : (AnswerClass.ofCode b).isSome = true ↔ b.toNat ≤ 2 := by
  have codes : b.toNat ≤ 2 ↔ b = 0 ∨ b = 1 ∨ b = 2 := by bv_omega
  rw [codes]
  unfold AnswerClass.ofCode
  split
  · simp [*]
  · split
    · simp [*]
    · split
      · simp [*]
      · simp only [Option.isSome_none, Bool.false_eq_true, *, or_self]

theorem yesNo_isSome_iff (b : Byte) : (yesNo b).isSome = true ↔ b.toNat ≤ 1 := by
  have codes : b.toNat ≤ 1 ↔ b = 0 ∨ b = 1 := by bv_omega
  rw [codes]
  unfold yesNo
  split
  · simp [*]
  · split
    · simp [*]
    · simp only [Option.isSome_none, Bool.false_eq_true, *, or_self]

theorem templateId_val (id : Fin 16) : templateId id.val = some id := by simp [templateId]

theorem answerIndex_val (i : Fin 32) : answerIndex i.val = some i := by simp [answerIndex]

/-- The number of a template in a byte (R194). -/
theorem toNat_ofNat_template (id : Fin 16) : (BitVec.ofNat 8 id.val : Byte).toNat = id.val := by
  rw [BitVec.toNat_ofNat, Nat.mod_eq_of_lt (by omega)]

theorem toNat_ofNat_index (i : Fin 32) : (BitVec.ofNat 8 i.val : Byte).toNat = i.val := by
  rw [BitVec.toNat_ofNat, Nat.mod_eq_of_lt (by omega)]

/-! ### FILTER_INSERT -/

/-- Inserting at a position inside puts the element between the two parts of the list. -/
theorem insertIdx_eq_take_append {α : Type} (x : α) : ∀ (l : List α) (n : Nat), n ≤ l.length →
    l.insertIdx n x = l.take n ++ [x] ++ l.drop n
  | l, 0, _ => by simp
  | [], n + 1, inside => by simp at inside
  | a :: l, n + 1, inside => by
    rw [List.insertIdx_succ_cons, insertIdx_eq_take_append x l n (Nat.le_of_succ_le_succ inside)]
    simp

/-- A record in its bytes, after its position, is the form of that record (R47, R194). -/
theorem FilterForm.read_bytes (p : Byte) {r : FilterRecord} (wellFormed : patternWellFormed r.pattern = true) :
    FilterForm.read (p :: r.bytes) =
      some ⟨p.toNat, r.label, r.action.code, flagByte r.isProtected, r.pattern⟩ := by
  have label := append_bytes_of_half r.label
  simp only [FilterRecord.bytes, bytesBE_two, patternBytes, List.cons_append, List.nil_append, FilterForm.read,
    pattern_count wellFormed, readTerms_flatMap, Option.map_some, label]

/-- The form of a record with hit count 0 gives it back (R46, R47). -/
theorem FilterForm.record_of_fields {r : FilterRecord} (n : Nat) (hits : r.hits = 0)
    (wellFormed : patternWellFormed r.pattern = true) :
    FilterForm.record ⟨n, r.label, r.action.code, flagByte r.isProtected, r.pattern⟩ = some r := by
  simp only [FilterForm.record, FilterAction.ofCode_code, yesNo_flagByte, wellFormed, if_true, ← hits]

/-- A form gives a record just when its fields are in range (R47). -/
theorem FilterForm.record_isSome_iff (f : FilterForm) : f.record.isSome = true ↔
    patternWellFormed f.pattern = true ∧ f.action.toNat ≤ 2 ∧ f.isProtected.toNat ≤ 1 := by
  rw [← FilterAction.ofCode_isSome_iff, ← yesNo_isSome_iff]
  unfold FilterForm.record
  cases FilterAction.ofCode f.action <;> cases yesNo f.isProtected <;> cases patternWellFormed f.pattern <;> simp

section
variable {s : State} {body : List Byte} {form : FilterForm}

/-- FILTER_INSERT of a record at a position inside a list with room (R47). -/
theorem runFilterInsert_places {r : FilterRecord} (read : FilterForm.read body = some form) (record : form.record = some r)
    (inside : form.position ≤ s.filters.length) (room : s.filters.length < 16) :
    runFilterInsert body s = { s with
      filters := s.filters.take form.position ++ [r] ++ s.filters.drop form.position }.respond .ok
        [BitVec.ofNat 8 (s.filters.length + 1)] := by
  have notPast : ¬s.filters.length < form.position := Nat.not_lt.mpr inside
  have notFull : ¬Config.filterCapacity ≤ s.filters.length := Nat.not_le.mpr room
  have length : (s.filters.take form.position ++ [r] ++ s.filters.drop form.position).length
      = s.filters.length + 1 := by simp; omega
  simp only [runFilterInsert, read, record, notPast, notFull, if_false, State.filterCount,
    insertIdx_eq_take_append r s.filters form.position inside, length]

/-- FILTER_INSERT of a bad record or past the end is BAD_ARGUMENT (R47). -/
theorem runFilterInsert_bad (read : FilterForm.read body = some form)
    (bad : form.record = none ∨ s.filters.length < form.position) :
    runFilterInsert body s = s.respond .badArgument [BitVec.ofNat 8 s.filters.length] := by
  unfold runFilterInsert
  rw [read]
  dsimp only
  split
  · rfl
  · rename_i r record
    obtain noRecord | past := bad
    · cases noRecord.symm.trans record
    · rw [if_pos past]
      rfl

/-- FILTER_INSERT into a full list is NO_ROOM (R47). -/
theorem runFilterInsert_full {r : FilterRecord} (read : FilterForm.read body = some form) (record : form.record = some r)
    (inside : form.position ≤ s.filters.length) (full : 16 ≤ s.filters.length) :
    runFilterInsert body s = s.respond .noRoom [BitVec.ofNat 8 s.filters.length] := by
  have notPast : ¬s.filters.length < form.position := Nat.not_lt.mpr inside
  have atCapacity : Config.filterCapacity ≤ s.filters.length := full
  simp only [runFilterInsert, read, record, notPast, atCapacity, if_false, if_true, State.filterCount]

end

/-- Settles O26, by the tests of FILTER_INSERT in their order. -/
theorem filterInsertPlacesOrRefuses : Obligations.FilterInsertPlacesOrRefuses := by
  refine ⟨fun s tag p r ready hits wellFormed inside room => ?_, fun s tag p l1 l0 a pr t terms ready count => ?_⟩
  · exact congrArg _ (takeRequest_answers_keeping (m := ⟨0x0E, tag, p :: r.bytes⟩) (st := .ok) ready
      (runFilterInsert_places (s := s.awaiting ⟨0x0E, tag, p :: r.bytes⟩) (FilterForm.read_bytes p wellFormed)
        (FilterForm.record_of_fields _ hits wellFormed) inside room) rfl rfl)
  · intro body bad
    have read : FilterForm.read body = some ⟨p.toNat, l1 ++ l0, a, pr, terms⟩ := by
      simp only [body, FilterForm.read, ← count, readTerms_flatMap, Option.map_some]
    have inRange := FilterForm.record_isSome_iff ⟨p.toNat, l1 ++ l0, a, pr, terms⟩
    refine ⟨fun refused => ?_, fun good inside full => ?_⟩
    · refine congrArg _ (takeRequest_answers_unchanged (m := ⟨0x0E, tag, body⟩) ready
        (runFilterInsert_bad (s := s.awaiting ⟨0x0E, tag, body⟩) read ?_))
      refine refused.imp_left fun bad => ?_
      rw [← Option.not_isSome_iff_eq_none, inRange]
      exact bad
    · obtain ⟨r, record⟩ := Option.isSome_iff_exists.mp (inRange.mpr (not_not.mp good))
      exact congrArg _ (takeRequest_answers_unchanged (m := ⟨0x0E, tag, body⟩) ready
        (runFilterInsert_full (s := s.awaiting ⟨0x0E, tag, body⟩) read record inside full))

/-! ### TEMPLATE_SET and TEMPLATE_GET -/

/-- A copy operation's fields as they stand in its bytes (R194). -/
def CopyOp.quad (o : CopyOp) : Quad := ⟨o.source.code, o.srcOffset, o.dstOffset, o.len⟩

theorem flatMap_quad_bytes (ops : List CopyOp) : (ops.map CopyOp.quad).flatMap Quad.bytes = ops.flatMap CopyOp.bytes := by
  induction ops with
  | nil => rfl
  | cons o rest ih =>
    rw [List.map_cons, List.flatMap_cons, List.flatMap_cons, ih]
    rfl

/-- A TEMPLATE_SET body by its parts (R72, R194). -/
theorem TemplateForm.read_parts {id n m : Byte} {body : List Byte} {ops : List Quad} (bodyLength : body.length = n.toNat)
    (opsLength : ops.length = m.toNat) :
    TemplateForm.read (id :: n :: (body ++ m :: ops.flatMap Quad.bytes)) = some ⟨id.toNat, body, ops⟩ := by
  have dropped : (body ++ m :: ops.flatMap Quad.bytes).drop n.toNat = m :: ops.flatMap Quad.bytes := by
    rw [← bodyLength, List.drop_left]
  have taken : (body ++ m :: ops.flatMap Quad.bytes).take n.toNat = body := by
    rw [← bodyLength, List.take_left]
  simp only [TemplateForm.read, dropped, taken, ← opsLength, readOps_flatMap, Option.map_some]

/-- A template in its bytes is its form (R72, R194). -/
theorem TemplateForm.read_bytes (id : Fin 16) {t : Template} (long : t.body.length ≤ 128) (short : t.edits.length ≤ 8) :
    TemplateForm.read (t.bytes id) = some ⟨id.val, t.body, t.edits.map CopyOp.quad⟩ := by
  have bodyLength : t.body.length = (BitVec.ofNat 8 t.body.length : Byte).toNat := by
    rw [BitVec.toNat_ofNat, Nat.mod_eq_of_lt (by omega)]
  have opsLength : (t.edits.map CopyOp.quad).length = (BitVec.ofNat 8 t.edits.length : Byte).toNat := by
    rw [BitVec.toNat_ofNat, List.length_map, Nat.mod_eq_of_lt (by omega)]
  have parts := TemplateForm.read_parts (id := BitVec.ofNat 8 id.val) bodyLength opsLength
  rw [flatMap_quad_bytes, toNat_ofNat_template] at parts
  simpa [Template.bytes] using parts

/-- Well-formed operations make their edit list (R69). -/
theorem editListOf_quads {n : Nat} : ∀ {ops : List CopyOp}, (∀ o ∈ ops, copyOpOf n o.quad = some o) →
    editListOf n (ops.map CopyOp.quad) = some ops
  | [], _ => rfl
  | o :: rest, wellFormed => by
    have tail := editListOf_quads fun x member => wellFormed x (List.mem_cons_of_mem o member)
    simp [editListOf, wellFormed o (by simp), tail]

/-- One operation that is not well formed spoils the edit list (R72). -/
theorem editListOf_eq_none {n : Nat} : ∀ {qs : List Quad}, (∃ q ∈ qs, copyOpOf n q = none) → editListOf n qs = none
  | [], ⟨_, member, _⟩ => by cases member
  | q :: rest, ⟨x, member, bad⟩ => by
    unfold editListOf
    split
    · rename_i first tail
      rcases List.mem_cons.mp member with rfl | later
      · cases bad.symm.trans first
      · cases (editListOf_eq_none ⟨x, later, bad⟩).symm.trans tail
    · rfl

section
variable {s : State} {form : TemplateForm}

theorem State.defineTemplate_defines {id : Fin 16} {edits : List CopyOp} (named : templateId form.id = some id)
    (low : 14 ≤ form.body.length) (high : form.body.length ≤ 128) (few : form.ops.length ≤ 8)
    (edit : editListOf form.body.length form.ops = some edits) :
    s.defineTemplate form = { s with templates := s.templates.set id (some ⟨form.body, edits⟩) }.respond .ok
      [if s.templates[id].isSome then 1 else 0] := by
  have inRange : (form.body.length < 14 || 128 < form.body.length || 8 < form.ops.length) = false := by
    simp
    omega
  simp only [State.defineTemplate, named, inRange, Bool.false_eq_true, if_false, edit]
  rfl

theorem State.defineTemplate_refuses (bad : 15 < form.id ∨ form.body.length < 14 ∨ 128 < form.body.length
    ∨ 8 < form.ops.length ∨ editListOf form.body.length form.ops = none) :
    s.defineTemplate form = s.respond .badArgument [] := by
  unfold State.defineTemplate
  split
  · rfl
  · rename_i id named
    have small : form.id < 16 := by
      by_contra large
      simp [templateId, large] at named
    split
    · rfl
    · rename_i inRange
      simp only [Bool.or_eq_true, decide_eq_true_eq, not_or] at inRange
      split
      · rfl
      · rename_i edits edit
        obtain large | short | long | many | none_edit := bad
        · omega
        · exact absurd short inRange.1.1
        · exact absurd long inRange.1.2
        · exact absurd many inRange.2
        · cases none_edit.symm.trans edit

theorem State.undefineTemplate_unnamed {id : Fin 16} (named : templateId form.id = some id) (bare : form.ops = [])
    (unnamed : lowestNaming s.answers id = none) :
    s.undefineTemplate form = { s with templates := s.templates.set id none }.respond .ok
      [if s.templates[id].isSome then 1 else 0] := by
  simp only [State.undefineTemplate, named, bare, List.length_nil, ne_eq, not_true_eq_false, if_false, unnamed]
  rfl

theorem State.undefineTemplate_inUse {id : Fin 16} {i : Fin 32} (named : templateId form.id = some id)
    (bare : form.ops = []) (naming : lowestNaming s.answers id = some i) :
    s.undefineTemplate form = s.respond .inUse [BitVec.ofNat 8 i.val] := by
  simp only [State.undefineTemplate, named, bare, List.length_nil, ne_eq, not_true_eq_false, if_false, naming]

theorem State.undefineTemplate_refuses (bad : 15 < form.id ∨ form.ops.length ≠ 0) :
    s.undefineTemplate form = s.respond .badArgument [] := by
  unfold State.undefineTemplate
  split
  · rfl
  · rename_i id named
    obtain large | edited := bad
    · have small : ¬form.id < 16 := by omega
      simp [templateId, small] at named
    · rw [if_pos edited]

/-- TEMPLATE_SET goes by the body length of its form (R72, R73). -/
theorem runTemplateSet_of_read {body : List Byte} (read : TemplateForm.read body = some form) :
    runTemplateSet body s = if form.body.length = 0 then s.undefineTemplate form else s.defineTemplate form := by
  simp only [runTemplateSet, read]

end

/-- The lowest index that names a template, where one does and none below it does (R73). -/
theorem lowestNaming_eq_some {answers : Vector (Option AnswerEntry) 32} {id : Fin 16} {i : Fin 32} {e : AnswerEntry}
    (entry : answers[i] = some e) (named : e.template = id)
    (lower : ∀ (j : Fin 32) (f : AnswerEntry), j < i → answers[j] = some f → f.template ≠ id) :
    lowestNaming answers id = some i := by
  unfold lowestNaming
  rw [List.find?_eq_some_iff_getElem]
  refine ⟨by simp [entry, named], i.val, by simp, by simp, fun j below => ?_⟩
  have jLt : j < 32 := Nat.lt_trans below i.isLt
  have unnamed := lower ⟨j, jLt⟩
  simp only [List.getElem_finRange, Fin.cast_mk, Bool.not_eq_true', Fin.getElem_fin]
  split
  · rename_i f atJ
    simpa using unnamed f below atJ
  · rfl

theorem runTemplateGet_of_defined {s : State} {n : Byte} {id : Fin 16} {t : Template} (named : n.toNat = id.val)
    (defined : s.templates[id] = some t) : runTemplateGet [n] s = s.respond .ok (t.bytes id) := by
  simp only [runTemplateGet, named, templateId_val, defined]

theorem runTemplateGet_of_undefined {s : State} {n : Byte} {id : Fin 16} (named : n.toNat = id.val)
    (undefined : s.templates[id] = none) : runTemplateGet [n] s = s.respond .notFound [] := by
  simp only [runTemplateGet, named, templateId_val, undefined]

theorem runTemplateGet_of_large {s : State} {n : Byte} (large : 15 < n.toNat) :
    runTemplateGet [n] s = s.respond .badArgument [] := by
  have notSmall : ¬n.toNat < 16 := by omega
  simp only [runTemplateGet, templateId, notSmall, dite_false]

/-- TEMPLATE_SET as a command on a link at rest, where it changes nothing. -/
theorem exec_templateSet_refused {s : State} {tag : Byte} {body : List Byte} {st : Status} {fields : List Byte}
    (ready : HostReady s) (run : runTemplateSet body (s.awaiting ⟨0x0C, tag, body⟩)
      = (s.awaiting ⟨0x0C, tag, body⟩).respond st fields) :
    exec (.templateSet tag body) s = .next (s.answered 0x8C tag (st.code :: fields)) :=
  congrArg _ (takeRequest_answers_unchanged (m := ⟨0x0C, tag, body⟩) ready run)

/-- Settles O28, by the form of the body and then the tests in their order. -/
theorem templateRequests : Obligations.TemplateRequests := by
  refine ⟨fun s tag id t ready low high few wellFormed => ⟨?define, fun u uReady defined => ?get⟩,
    fun s tag id ready => ⟨fun unnamed => ?undefine, fun i e entry named lower => ?inUse⟩,
    fun s tag id n m body ops ready bodyLength opsLength => ⟨fun bad => ?refused, fun large => ?getLarge,
      fun k named undefined => ?getUndefined⟩⟩
  case define =>
    refine congrArg _ (takeRequest_answers_keeping (m := ⟨0x0C, tag, t.bytes id⟩) (st := .ok)
      (u := { s.awaiting ⟨0x0C, tag, t.bytes id⟩ with templates := s.templates.set id (some t) }) ready ?_ rfl rfl)
    refine (runTemplateSet_of_read (TemplateForm.read_bytes id high few)).trans ?_
    dsimp only
    rw [if_neg (by omega)]
    exact State.defineTemplate_defines (templateId_val id) low high (by simpa using few) (editListOf_quads wellFormed)
  case get =>
    exact congrArg _ (takeRequest_answers_unchanged (m := ⟨0x0D, tag, [BitVec.ofNat 8 id.val]⟩) uReady
      (runTemplateGet_of_defined (s := u.awaiting ⟨0x0D, tag, [BitVec.ofNat 8 id.val]⟩) (toNat_ofNat_template id) defined))
  case undefine =>
    have read := TemplateForm.read_parts (id := BitVec.ofNat 8 id.val) (n := 0) (m := 0) (body := []) (ops := []) rfl rfl
    rw [toNat_ofNat_template] at read
    refine congrArg _ (takeRequest_answers_keeping (m := ⟨0x0C, tag, [BitVec.ofNat 8 id.val, 0, 0]⟩) (st := .ok)
      (u := { s.awaiting ⟨0x0C, tag, [BitVec.ofNat 8 id.val, 0, 0]⟩ with templates := s.templates.set id none })
      ready ?_ rfl rfl)
    refine (runTemplateSet_of_read read).trans ?_
    exact State.undefineTemplate_unnamed (templateId_val id) rfl (lowestNaming_eq_none_iff.mpr unnamed)
  case inUse =>
    have read := TemplateForm.read_parts (id := BitVec.ofNat 8 id.val) (n := 0) (m := 0) (body := []) (ops := []) rfl rfl
    rw [toNat_ofNat_template] at read
    refine congrArg _ (takeRequest_answers_unchanged (m := ⟨0x0C, tag, [BitVec.ofNat 8 id.val, 0, 0]⟩) (st := .inUse)
      ready ?_)
    refine (runTemplateSet_of_read read).trans ?_
    exact State.undefineTemplate_inUse (templateId_val id) rfl (lowestNaming_eq_some entry named lower)
  case refused =>
    refine exec_templateSet_refused (st := .badArgument) ready ?_
    rw [runTemplateSet_of_read (TemplateForm.read_parts bodyLength opsLength)]
    dsimp only
    split
    · refine State.undefineTemplate_refuses ?_
      dsimp only
      omega
    · refine State.defineTemplate_refuses ?_
      dsimp only
      rw [bodyLength] at *
      obtain large | ⟨-, short | long | many | bad⟩ | ⟨empty, -⟩ := bad
      · exact .inl large
      · exact .inr (.inl short)
      · exact .inr (.inr (.inl long))
      · exact .inr (.inr (.inr (.inl (by omega))))
      · exact .inr (.inr (.inr (.inr (editListOf_eq_none bad))))
      · omega
  case getLarge =>
    exact congrArg _ (takeRequest_answers_unchanged (m := ⟨0x0D, tag, [id]⟩) ready
      (runTemplateGet_of_large (s := s.awaiting ⟨0x0D, tag, [id]⟩) large))
  case getUndefined =>
    exact congrArg _ (takeRequest_answers_unchanged (m := ⟨0x0D, tag, [id]⟩) ready
      (runTemplateGet_of_undefined (s := s.awaiting ⟨0x0D, tag, [id]⟩) named undefined))

end Sys2Proof.Machine
end

/-! The requests of the answer table (R75, R76, R77) and DESC_WRITE (R114); O30 and O32. -/

section
namespace Sys2Proof.Machine

/-! ### ANSWER_SET -/

/-- An entry in its bytes, after its index, is the form of that entry (R75, R194). -/
theorem AnswerForm.read_bytes (i : Fin 32) {e : AnswerEntry} (wellFormed : patternWellFormed e.pattern = true) :
    AnswerForm.read (BitVec.ofNat 8 i.val :: e.bytes) =
      some ⟨i.val, e.cls.code, e.template.val, e.pacing, flagByte e.isProtected, e.pattern⟩ := by
  have pacing := append_bytes_of_half e.pacing
  simp only [AnswerEntry.bytes, bytesBE_two, patternBytes, List.cons_append, List.nil_append, AnswerForm.read,
    pattern_count wellFormed, readTerms_flatMap, Option.map_some, pacing, toNat_ofNat_template, toNat_ofNat_index]

section
variable {s : State}

/-- The form of an entry whose template is defined gives it afresh (R75). -/
theorem State.answerOf_fields (n : Nat) {e : AnswerEntry} (wellFormed : patternWellFormed e.pattern = true)
    (defined : s.templates[e.template].isSome = true) :
    s.answerOf ⟨n, e.cls.code, e.template.val, e.pacing, flagByte e.isProtected, e.pattern⟩ =
      some { e with hits := 0, quietUntil := none } := by
  simp only [State.answerOf, AnswerClass.ofCode_code, yesNo_flagByte, templateId_val, wellFormed, defined,
    Bool.and_self, if_true]

/-- A form with a field out of range, or with an undefined template, gives no entry (R75). -/
theorem State.answerOf_eq_none {form : AnswerForm} (bad : patternWellFormed form.pattern = false ∨ 2 < form.cls.toNat
    ∨ 1 < form.isProtected.toNat ∨ 15 < form.template ∨ ∃ k : Fin 16, form.template = k.val ∧ s.templates[k] = none) :
    s.answerOf form = none := by
  unfold State.answerOf
  split
  · rename_i c pr id cls isProtected template
    have clsLow := (AnswerClass.ofCode_isSome_iff form.cls).mp (by rw [cls]; rfl)
    have protectedLow := (yesNo_isSome_iff form.isProtected).mp (by rw [isProtected]; rfl)
    obtain pattern | large | large | large | ⟨k, named, undefined⟩ := bad
    · simp [pattern]
    · omega
    · omega
    · have notSmall : ¬form.template < 16 := by omega
      simp [templateId, notSmall] at template
    · rw [named, templateId_val] at template
      obtain rfl := Option.some.inj template
      rw [undefined]
      simp
  · rfl

theorem runAnswerSet_sets {body : List Byte} {form : AnswerForm} {i : Fin 32} {e : AnswerEntry}
    (read : AnswerForm.read body = some form) (index : answerIndex form.index = some i)
    (entry : s.answerOf form = some e) : runAnswerSet body s =
      { s with answers := s.answers.set i (some e) }.respond .ok [if s.answers[i].isSome then 1 else 0] := by
  simp only [runAnswerSet, read, index, entry]
  rfl

theorem runAnswerSet_refused {body : List Byte} {form : AnswerForm} (read : AnswerForm.read body = some form)
    (bad : answerIndex form.index = none ∨ s.answerOf form = none) :
    runAnswerSet body s = s.respond .badArgument [] := by
  unfold runAnswerSet
  rw [read]
  dsimp only
  split
  · rename_i index entry
    obtain noIndex | noEntry := bad
    · cases noIndex.symm.trans index
    · cases noEntry.symm.trans entry
  · rfl

/-! ### ANSWER_CLEAR and ANSWER_GET -/

theorem answerIndex_of_large {n : Nat} (large : 31 < n) : answerIndex n = none := by
  have notSmall : ¬n < 32 := by omega
  simp [answerIndex, notSmall]

section
variable {n : Byte} {i : Fin 32}

theorem runAnswerClear_of_entry {e : AnswerEntry} (named : n.toNat = i.val) (entry : s.answers[i] = some e) :
    runAnswerClear [n] s = { s with answers := s.answers.set i none }.respond .ok (1 :: bytesBE 2 e.hits) := by
  simp only [runAnswerClear, named, answerIndex_val, entry]
  rfl

/-- Clearing an empty slot changes nothing (R76). -/
theorem runAnswerClear_of_empty (named : n.toNat = i.val) (empty : s.answers[i] = none) :
    runAnswerClear [n] s = s.respond .ok [0, 0, 0] := by
  have same : s.answers.set i none = s.answers := by
    rw [← empty]
    exact Vector.set_getElem_self i.isLt
  simp only [runAnswerClear, named, answerIndex_val, empty, same]
  rfl

theorem runAnswerClear_of_large (large : 31 < n.toNat) : runAnswerClear [n] s = s.respond .badArgument [] := by
  simp only [runAnswerClear, answerIndex_of_large large]

theorem runAnswerGet_of_entry {e : AnswerEntry} (named : n.toNat = i.val) (entry : s.answers[i] = some e) :
    runAnswerGet [n] s = s.respond .ok ([n] ++ e.bytes ++ bytesBE 2 e.hits
      ++ match e.quietUntil with
        | none => 0 :: bytesBE 6 0
        | some q => 1 :: bytesBE 6 q.toNat) := by
  simp only [runAnswerGet, named, answerIndex_val, entry]
  cases e.quietUntil <;> rfl

theorem runAnswerGet_of_empty (named : n.toNat = i.val) (empty : s.answers[i] = none) :
    runAnswerGet [n] s = s.respond .notFound [] := by
  simp only [runAnswerGet, named, answerIndex_val, empty]

theorem runAnswerGet_of_large (large : 31 < n.toNat) : runAnswerGet [n] s = s.respond .badArgument [] := by
  simp only [runAnswerGet, answerIndex_of_large large]

end

end

/-- Settles O30, by the form of the body, or by the slot its index names. -/
theorem answerRequests : Obligations.AnswerRequests := by
  refine ⟨fun s tag i e ready wellFormed defined => ?set, fun s tag n ready => ⟨fun i e named entry => ⟨?clear, ?get⟩,
    fun i named empty => ⟨?clearEmpty, ?getEmpty⟩, fun large => ⟨?clearLarge, ?getLarge⟩,
    fun c id p1 p0 pr t terms count bad => ?refused⟩⟩
  case set =>
    exact congrArg _ (takeRequest_answers_keeping (m := ⟨0x09, tag, BitVec.ofNat 8 i.val :: e.bytes⟩) (st := .ok) ready
      (runAnswerSet_sets (s := s.awaiting ⟨0x09, tag, BitVec.ofNat 8 i.val :: e.bytes⟩)
        (AnswerForm.read_bytes i wellFormed) (answerIndex_val i) (State.answerOf_fields i.val wellFormed defined)) rfl rfl)
  case clear =>
    exact congrArg _ (takeRequest_answers_keeping (m := ⟨0x0A, tag, [n]⟩) (st := .ok) ready
      (runAnswerClear_of_entry (s := s.awaiting ⟨0x0A, tag, [n]⟩) named entry) rfl rfl)
  case get =>
    exact congrArg _ (takeRequest_answers_unchanged (m := ⟨0x0B, tag, [n]⟩) ready
      (runAnswerGet_of_entry (s := s.awaiting ⟨0x0B, tag, [n]⟩) named entry))
  case clearEmpty =>
    exact congrArg _ (takeRequest_answers_unchanged (m := ⟨0x0A, tag, [n]⟩) ready
      (runAnswerClear_of_empty (s := s.awaiting ⟨0x0A, tag, [n]⟩) named empty))
  case getEmpty =>
    exact congrArg _ (takeRequest_answers_unchanged (m := ⟨0x0B, tag, [n]⟩) ready
      (runAnswerGet_of_empty (s := s.awaiting ⟨0x0B, tag, [n]⟩) named empty))
  case clearLarge =>
    exact congrArg _ (takeRequest_answers_unchanged (m := ⟨0x0A, tag, [n]⟩) ready
      (runAnswerClear_of_large (s := s.awaiting ⟨0x0A, tag, [n]⟩) large))
  case getLarge =>
    exact congrArg _ (takeRequest_answers_unchanged (m := ⟨0x0B, tag, [n]⟩) ready
      (runAnswerGet_of_large (s := s.awaiting ⟨0x0B, tag, [n]⟩) large))
  case refused =>
    let body := n :: c :: id :: p1 :: p0 :: pr :: t :: terms.flatMap Term.bytes
    have read : AnswerForm.read body = some ⟨n.toNat, c, id.toNat, p1 ++ p0, pr, terms⟩ := by
      simp only [body, AnswerForm.read, ← count, readTerms_flatMap, Option.map_some]
    refine congrArg _ (takeRequest_answers_unchanged (m := ⟨0x09, tag, body⟩) ready
      (runAnswerSet_refused (s := s.awaiting ⟨0x09, tag, body⟩) read ?_))
    exact bad.imp answerIndex_of_large State.answerOf_eq_none

/-! ### DESC_WRITE -/

section
variable {s : State} {body : List Byte} {offset : Nat} {bytes : List Byte}

/-- In a pass DESC_WRITE is BUSY (R114). -/
theorem runDescWrite_of_inPass (read : readDescWrite body = some (offset, bytes)) (pass : s.desc.state.inPass = true) :
    runDescWrite body s = s.respond .busy [] := by
  simp only [runDescWrite, read, pass, if_true]

/-- Outside the passes and EDITING, DESC_WRITE is WRONG_STATE (R114). -/
theorem runDescWrite_of_not_editing (read : readDescWrite body = some (offset, bytes))
    (noPass : s.desc.state.inPass = false) (other : s.desc.state ≠ .editing) :
    runDescWrite body s = s.respond .wrongState [] := by
  simp only [runDescWrite, read, noPass, bne_iff_ne.mpr other, Bool.false_eq_true, if_false, if_true]

/-- In EDITING a range that fails the test is BAD_ARGUMENT (R114). -/
theorem runDescWrite_of_range_false (read : readDescWrite body = some (offset, bytes)) (editing : s.desc.state = .editing)
    (outside : descRange offset bytes.length = false) : runDescWrite body s = s.respond .badArgument [] := by
  have noPass : DescState.editing.inPass = false := rfl
  simp only [runDescWrite, read, noPass, editing, outside, bne_self_eq_false, Bool.false_eq_true, if_false]

/-- In EDITING a range that passes the test is written (R114). -/
theorem runDescWrite_writes (read : readDescWrite body = some (offset, bytes)) (editing : s.desc.state = .editing)
    (inside : descRange offset bytes.length = true) : runDescWrite body s =
      { s with desc := { s.desc with store := Memory.writeRun s.desc.store offset bytes } }.respond .ok [] := by
  have noPass : DescState.editing.inPass = false := rfl
  simp only [runDescWrite, read, noPass, editing, inside, bne_self_eq_false, Bool.false_eq_true, if_false, if_true]

end

/-- Settles O32, by the descriptor state and then the range test. -/
theorem descWriteStoresItsBytes : Obligations.DescWriteStoresItsBytes := by
  intro s tag o1 o0 n bytes ready canonical count offset
  have read : readDescWrite (o1 :: o0 :: n :: bytes) = some (offset, bytes) := if_pos count
  have refused : ∀ st, runDescWrite (o1 :: o0 :: n :: bytes) (s.awaiting ⟨0x12, tag, o1 :: o0 :: n :: bytes⟩) =
      (s.awaiting ⟨0x12, tag, o1 :: o0 :: n :: bytes⟩).respond st [] →
      exec (.descWrite tag (o1 :: o0 :: n :: bytes)) s = .next (s.answered 0x92 tag [st.code]) := fun st run =>
    congrArg _ (takeRequest_answers_unchanged (m := ⟨0x12, tag, o1 :: o0 :: n :: bytes⟩) ready run)
  refine ⟨fun pass => refused .busy (runDescWrite_of_inPass read pass),
    fun noPass other => refused .wrongState (runDescWrite_of_not_editing read noPass other),
    fun editing outside => refused .badArgument (runDescWrite_of_range_false read editing ?_),
    fun editing low high fits => ⟨Memory.writeRun s.desc.store offset bytes, ?_, fun k inside => ?_, fun p outside => ?_⟩⟩
  · rw [count, descRange_eq_false_iff]
    exact outside
  · have inside : descRange offset bytes.length = true := by
      rw [count, descRange_iff]
      exact ⟨low, high, fits⟩
    exact congrArg _ (takeRequest_answers_keeping (m := ⟨0x12, tag, o1 :: o0 :: n :: bytes⟩) (st := .ok) ready
      (runDescWrite_writes (s := s.awaiting ⟨0x12, tag, o1 :: o0 :: n :: bytes⟩) read editing inside) rfl rfl)
  · have within : offset ≤ offset + k ∧ offset + k < offset + bytes.length := by omega
    rw [Memory.read_writeRun bytes canonical, dif_pos within, List.getElem?_eq_some_iff]
    exact ⟨by omega, by simp⟩
  · have without : ¬(offset ≤ p ∧ p < offset + bytes.length) := by omega
    rw [Memory.read_writeRun bytes canonical, dif_neg without]

end Sys2Proof.Machine
end

/-! The requests of the wake log and the alarm timers (R102, R103, R167, R168, R169) and the expiry of a timer (R166);
O41 and O43. -/

section
namespace Sys2Proof.Machine

/-! ### WAKELOG_TAKE -/

section
variable {s : State} {r : WakeRecord} {rest : List WakeRecord}

theorem runWakelogTake_of_empty (empty : s.wlog.records = []) : runWakelogTake [] s = s.respond .notFound [0] := by
  simp only [runWakelogTake, empty]

theorem runWakelogTake_takes (records : s.wlog.records = r :: rest) : runWakelogTake [] s =
    (({ s with wlog := { s.wlog with records := rest } } : State).freeCaptureOf r).respond .ok
      (BitVec.ofNat 8 rest.length :: r.bytes) := by
  simp only [runWakelogTake, records]

/-- A slot in use gives its buffer back (R98). -/
theorem State.freeSlot_of_used {k : Fin 2} {b : Fin 10} (used : s.wlog.slots[k] = some b) : s.freeSlot k =
    { s with
      pool := s.pool.set b { s.pool[b] with owner := .free }
      wlog := { s.wlog with slots := s.wlog.slots.set k none } } := by
  unfold State.freeSlot
  rw [used]
  rfl

/-! ### CAPTURE_GET -/

/-- The record of a capture slot, where no record before it names the slot (R103). -/
theorem Wlog.recordOf_eq {w : Wlog} {k : Fin 2} {n : Nat} {before after : List WakeRecord}
    (records : w.records = before ++ r :: after) (capture : r.capture = some ⟨k, n⟩)
    (first : ∀ x ∈ before, ∀ c, x.capture = some c → c.slot ≠ k) : w.recordOf k = some r := by
  unfold Wlog.recordOf
  rw [records, List.find?_append, List.find?_eq_none.mpr, Option.none_or, List.find?_cons_of_pos]
  · simp [capture]
  · intro x member
    cases found : x.capture with
    | none => simp
    | some c => simpa using first x member c found

theorem runCaptureGet_of_capture {slot half : Byte} {k : Fin 2} {b : Fin 10} {n : Nat} (named : slot.toNat = k.val)
    (low : half.toNat ≤ 1) (used : s.wlog.slots[k] = some b) (record : s.wlog.recordOf k = some r)
    (capture : r.capture = some ⟨k, n⟩) : runCaptureGet [slot, half] s =
      s.respond .ok ([slot, half] ++ bytesBE 4 r.seq.toNat ++ bytesBE 2 n ++ bytesBE 2 s.pool[b].bytes.length
        ++ [BitVec.ofNat 8 (captureHalf s.pool[b].bytes half.toNat).length]
        ++ captureHalf s.pool[b].bytes half.toNat) := by
  have inside : slot.toNat < 2 ∧ half.toNat < 2 := by omega
  have slotIs : (⟨slot.toNat, inside.1⟩ : Fin 2) = k := Fin.ext named
  simp only [runCaptureGet, inside, and_self, dite_true, slotIs, used, record, capture]

theorem runCaptureGet_of_free {slot half : Byte} {k : Fin 2} (named : slot.toNat = k.val) (low : half.toNat ≤ 1)
    (free : s.wlog.slots[k] = none) : runCaptureGet [slot, half] s = s.respond .notFound [] := by
  have inside : slot.toNat < 2 ∧ half.toNat < 2 := by omega
  have slotIs : (⟨slot.toNat, inside.1⟩ : Fin 2) = k := Fin.ext named
  simp only [runCaptureGet, inside, and_self, dite_true, slotIs, free]

theorem runCaptureGet_of_large {slot half : Byte} (large : 1 < slot.toNat ∨ 1 < half.toNat) :
    runCaptureGet [slot, half] s = s.respond .badArgument [] := by
  have outside : ¬(slot.toNat < 2 ∧ half.toNat < 2) := by omega
  simp only [runCaptureGet, outside, dite_false]

end

/-- The two halves of a capture (R103). -/
theorem captureHalf_eq (stored : List Byte) {half : Nat} (low : half ≤ 1) :
    captureHalf stored half = if half = 0 then stored.take 128 else (stored.drop 128).take 128 := by
  interval_cases half <;> rfl

/-- Settles O41, by the oldest record and its capture, and by the slot that CAPTURE_GET names. -/
theorem wakelogTakeAndCaptureGet : Obligations.WakelogTakeAndCaptureGet := by
  refine ⟨fun s tag ready => ⟨fun empty => ?empty, fun r rest records plain => ?plain,
    fun r rest c b records capture used => ?captured⟩, fun s tag slot half ready => ⟨fun large => ?large,
    fun k named low free => ?free, fun k b r n before after named low used records capture first => ?get⟩⟩
  case empty =>
    exact congrArg _ (takeRequest_answers_unchanged (m := ⟨0x15, tag, []⟩) ready
      (runWakelogTake_of_empty (s := s.awaiting ⟨0x15, tag, []⟩) empty))
  case plain =>
    have run := runWakelogTake_takes (s := s.awaiting ⟨0x15, tag, []⟩) records
    simp only [State.freeCaptureOf, plain] at run
    exact congrArg _ (takeRequest_answers_keeping (m := ⟨0x15, tag, []⟩) (st := .ok) ready run rfl rfl)
  case captured =>
    have run := runWakelogTake_takes (s := s.awaiting ⟨0x15, tag, []⟩) records
    have freed := State.freeSlot_of_used (k := c.slot) (b := b)
      (s := { s.awaiting ⟨0x15, tag, []⟩ with wlog := { s.wlog with records := rest } }) used
    simp only [State.freeCaptureOf, capture] at run
    exact congrArg _ (takeRequest_answers_keeping (m := ⟨0x15, tag, []⟩) (st := .ok) ready
      (run.trans (congrArg (fun u : State => u.respond .ok _) freed)) rfl rfl)
  case large =>
    exact congrArg _ (takeRequest_answers_unchanged (m := ⟨0x16, tag, [slot, half]⟩) ready
      (runCaptureGet_of_large (s := s.awaiting ⟨0x16, tag, [slot, half]⟩) large))
  case free =>
    exact congrArg _ (takeRequest_answers_unchanged (m := ⟨0x16, tag, [slot, half]⟩) ready
      (runCaptureGet_of_free (s := s.awaiting ⟨0x16, tag, [slot, half]⟩) named low free))
  case get =>
    intro bytes
    have run := runCaptureGet_of_capture (s := s.awaiting ⟨0x16, tag, [slot, half]⟩) named low used
      (Wlog.recordOf_eq records capture first) capture
    rw [captureHalf_eq _ low] at run
    exact congrArg _ (takeRequest_answers_unchanged (m := ⟨0x16, tag, [slot, half]⟩) ready run)

/-! ### Alarm timers -/

theorem alarmNumber_val (k : Fin 4) : alarmNumber k.val = some k := by simp [alarmNumber]

theorem alarmNumber_of_large {n : Nat} (large : 3 < n) : alarmNumber n = none := by
  have notSmall : ¬n < 4 := by omega
  simp [alarmNumber, notSmall]

/-- Four bytes are their number as a word (R194). -/
theorem append_four_bytes (i3 i2 i1 i0 : Byte) :
    (BitVec.ofNat 32 (ofBytesBE [i3, i2, i1, i0]) : Word) = i3 ++ i2 ++ i1 ++ i0 := by
  apply BitVec.eq_of_toNat_eq
  have h3 := i3.isLt
  have h2 := i2.isLt
  have h1 := i1.isLt
  have h0 := i0.isLt
  have joined : (i3 ++ i2 ++ i1 ++ i0 : BitVec (8 + 8 + 8 + 8)).toNat
      = ((i3.toNat * 256 + i2.toNat) * 256 + i1.toNat) * 256 + i0.toNat := by
    simp only [BitVec.toNat_append]
    rw [← Nat.shiftLeft_add_eq_or_of_lt h0, ← Nat.shiftLeft_add_eq_or_of_lt h1, ← Nat.shiftLeft_add_eq_or_of_lt h2]
    simp only [Nat.shiftLeft_eq, Nat.reducePow]
  refine Eq.trans ?_ joined.symm
  simp only [ofBytesBE, List.foldl_cons, List.foldl_nil, BitVec.toNat_ofNat]
  omega

theorem ofBytesBE_four_lt (i3 i2 i1 i0 : Byte) : ofBytesBE [i3, i2, i1, i0] < 2 ^ 32 := by
  have h3 := i3.isLt
  have h2 := i2.isLt
  have h1 := i1.isLt
  have h0 := i0.isLt
  simp only [ofBytesBE, List.foldl_cons, List.foldl_nil]
  omega

/-- A yes/no field in its range (R194). -/
theorem yesNo_of_low {p : Byte} (low : p.toNat ≤ 1) : yesNo p = some (p == 1) := by
  have codes : p = 0 ∨ p = 1 := by bv_omega
  obtain rfl | rfl := codes <;> rfl

section
variable {s : State} {n i3 i2 i1 i0 p : Byte} {k : Fin 4}

theorem runAlarmSet_sets (named : n.toNat = k.val) (nonzero : ofBytesBE [i3, i2, i1, i0] ≠ 0) (low : p.toNat ≤ 1) :
    runAlarmSet [n, i3, i2, i1, i0, p] s =
      { s with alarms := (s.alarms.set k ⟨.running (ofBytesBE [i3, i2, i1, i0]), i3 ++ i2 ++ i1 ++ i0, p == 1, s.time,
        s.time + 1000, 0⟩) }.respond .ok [n, s.alarms[k].state.code] := by
  have small := ofBytesBE_four_lt i3 i2 i1 i0
  have word : (BitVec.ofNat 32 (ofBytesBE [i3, i2, i1, i0])).toNat = ofBytesBE [i3, i2, i1, i0] := by
    rw [BitVec.toNat_ofNat, Nat.mod_eq_of_lt small]
  have notZero : BitVec.ofNat 32 (ofBytesBE [i3, i2, i1, i0]) ≠ 0 := by
    intro zero
    rw [zero] at word
    exact nonzero word.symm
  simp only [runAlarmSet, named, alarmNumber_val, yesNo_of_low low, notZero, if_false, Alarm.started, word]
  rw [append_four_bytes]
  rfl

theorem runAlarmSet_refused (bad : 3 < n.toNat ∨ ofBytesBE [i3, i2, i1, i0] = 0 ∨ 1 < p.toNat) :
    runAlarmSet [n, i3, i2, i1, i0, p] s = s.respond .badArgument [] := by
  unfold runAlarmSet
  dsimp only
  split
  · rename_i k periodic number yes
    obtain large | zero | large := bad
    · cases (alarmNumber_of_large large).symm.trans number
    · rw [zero]
      exact if_pos rfl
    · cases (yesNo_eq_none large).symm.trans yes
  · rfl

theorem runAlarmStop_stops (named : n.toNat = k.val) : runAlarmStop [n] s =
    { s with alarms := s.alarms.set k { s.alarms[k] with state := .idle } }.respond .ok
      ([n, s.alarms[k].state.code] ++ match s.alarms[k].state with
        | .running r => 1 :: bytesBE 4 r
        | _ => 0 :: bytesBE 4 0) := by
  simp only [runAlarmStop, named, alarmNumber_val]
  cases s.alarms[k].state <;> rfl

theorem runAlarmStop_of_large (large : 3 < n.toNat) : runAlarmStop [n] s = s.respond .badArgument [] := by
  simp only [runAlarmStop, alarmNumber_of_large large]

theorem runAlarmGet_gets (named : n.toNat = k.val) : runAlarmGet [n] s =
    s.respond .ok ([n, s.alarms[k].state.code] ++ bytesBE 4 s.alarms[k].initial.toNat
      ++ [if s.alarms[k].periodic then 1 else 0]
      ++ (match s.alarms[k].state with
        | .running r => 1 :: bytesBE 4 (max 1 r)
        | .spent => [1, 0xFF, 0xFF, 0xFF, 0xFF]
        | .idle => 0 :: bytesBE 4 0)
      ++ bytesBE 2 s.alarms[k].expiries) := by
  simp only [runAlarmGet, named, alarmNumber_val]
  cases s.alarms[k].state <;> rfl

theorem runAlarmGet_of_large (large : 3 < n.toNat) : runAlarmGet [n] s = s.respond .badArgument [] := by
  simp only [runAlarmGet, alarmNumber_of_large large]

/-- The expiry of a timer whose remaining has reached 0 (R166). -/
theorem State.alarmExpires_due (due : s.alarms[k].state = .running 0) : s.alarmExpires k = ({ s with
    alarms := s.alarms.set k { s.alarms[k] with
      state := if s.alarms[k].periodic then .running s.alarms[k].initial.toNat else .spent
      expiries := stopAt 65535 s.alarms[k].expiries }
    events := s.events.raise (.alarm k) s.time } : State).takeCause
      ⟨.alarm, some (BitVec.ofNat 16 k.val), false, none⟩ := by
  have dueNow : s.alarmDue k = true := by
    unfold State.alarmDue
    rw [due]
    rfl
  rw [State.alarmExpires, if_pos dueNow]
  rfl

end

/-- Settles O43, by the timer its number names, and at an expiry by the remaining. -/
theorem alarmRequestsAndExpiry : Obligations.AlarmRequestsAndExpiry := by
  refine ⟨fun s tag n ready => ⟨fun k i3 i2 i1 i0 p named nonzero low => ?set, fun i3 i2 i1 i0 p bad => ?refused,
    fun k named => ⟨?stop, ?get⟩, fun large => ⟨?stopLarge, ?getLarge⟩⟩, fun s n due => ?expiry⟩
  case set =>
    exact congrArg _ (takeRequest_answers_keeping (m := ⟨0x1C, tag, [n, i3, i2, i1, i0, p]⟩) (st := .ok) ready
      (runAlarmSet_sets (s := s.awaiting ⟨0x1C, tag, [n, i3, i2, i1, i0, p]⟩) named nonzero low) rfl rfl)
  case refused =>
    exact congrArg _ (takeRequest_answers_unchanged (m := ⟨0x1C, tag, [n, i3, i2, i1, i0, p]⟩) ready
      (runAlarmSet_refused (s := s.awaiting ⟨0x1C, tag, [n, i3, i2, i1, i0, p]⟩) bad))
  case stop =>
    exact congrArg _ (takeRequest_answers_keeping (m := ⟨0x1D, tag, [n]⟩) (st := .ok) ready
      (runAlarmStop_stops (s := s.awaiting ⟨0x1D, tag, [n]⟩) named) rfl rfl)
  case get =>
    exact congrArg _ (takeRequest_answers_unchanged (m := ⟨0x1E, tag, [n]⟩) ready
      (runAlarmGet_gets (s := s.awaiting ⟨0x1E, tag, [n]⟩) named))
  case stopLarge =>
    exact congrArg _ (takeRequest_answers_unchanged (m := ⟨0x1D, tag, [n]⟩) ready
      (runAlarmStop_of_large (s := s.awaiting ⟨0x1D, tag, [n]⟩) large))
  case getLarge =>
    exact congrArg _ (takeRequest_answers_unchanged (m := ⟨0x1E, tag, [n]⟩) ready
      (runAlarmGet_of_large (s := s.awaiting ⟨0x1E, tag, [n]⟩) large))
  case expiry => exact hostAfter_congr (State.alarmExpires_due due)

end Sys2Proof.Machine
end

/-! The cut of a frame and the switches of the line as equations (R2, R6, R7, R16, R28), and HANDOVER with its wait (R5);
O11, O12 and O13. -/

section
namespace Sys2Proof.Machine

section
variable {s : State}

/-! ### The cut -/

theorem State.cutFrame_storing {b : Fin 10} {f : RxFrame} (storing : s.rxp = .storing b f) : s.cutFrame = { s with
    rxp := .ignoring
    pool := s.pool.set b { s.pool[b] with owner := .free }
    counters := s.counters.set 7 (s.counters[(7 : Fin 23)] + 1) } := by
  unfold State.cutFrame
  rw [storing]
  rfl

theorem State.cutFrame_unstored {f : RxFrame} (unstored : s.rxp = .streaming f ∨ s.rxp = .discarding f) :
    s.cutFrame = { s with rxp := .ignoring, counters := s.counters.set 7 (s.counters[(7 : Fin 23)] + 1) } := by
  unfold State.cutFrame
  obtain streaming | discarding := unstored
  · rw [streaming]
    rfl
  · rw [discarding]
    rfl

theorem State.cutFrame_none (noFrame : s.rxp.inReception = false) : s.cutFrame = s := by
  unfold State.cutFrame
  cases rxp : s.rxp
  case idle => rfl
  case ignoring => rfl
  all_goals simp [rxp, Rxp.inReception] at noFrame

/-! ### The switch to the part -/

/-- The gap from now, by the link (R84). -/
theorem State.gapFromNow_eq (s : State) : s.gapFromNow = match s.lmon.link with
    | .up c => .gap (s.clock + 12 * c.byteNs)
    | _ => .idle := by
  unfold State.gapFromNow
  cases s.lmon.link <;> rfl

/-- PRC and the transmitter as the switch to the part leaves them, before its response (R2, R6, R7, R84). -/
def State.switched (s : State) : State :=
  { s with
    prc := { s.prc with
      presence := .proxy, handoverDeadline := none, wakeAckTimer := none, escalations := 0, pendingResponse := .none }
    txq := { s.txq with transmitter :=
      match s.lmon.link with
      | .up c => .gap (s.clock + 12 * c.byteNs)
      | _ => .idle } }

/-- The switch to the part cuts the frame in reception and then answers HANDOVER (R6, R7). -/
theorem State.switchToPart_eq (s : State) (forced : Bool) :
    s.switchToPart forced = s.cutFrame.switched.respond .ok [flagByte forced] := by
  unfold State.switched
  rw [← State.gapFromNow_eq]
  rfl

/-- A response to the request at the head of the queue (R178). -/
theorem State.respond_of_requests {r : Message} {rest : List Message} (requests : s.link.requests = r :: rest)
    (st : Status) (fields : List Byte) : s.respond st fields = { s with link := { s.link with
      requests := rest, executing := false, slot := some ⟨responseKind r.kind, r.tag, st.code :: fields⟩ } } := by
  unfold State.respond
  rw [requests]

/-- The test of ENTERING's wait switches with HOST_TX_ACTIVE low and no frame in reception (R6). -/
theorem State.testWait_switches (entering : s.prc.presence = .entering) (low : s.pins.hostTxActive = false)
    (noFrame : s.rxp.inReception = false) : s.testWait = s.switched.respond .ok [0] := by
  have test : (s.prc.presence == .entering && !s.pins.hostTxActive && !s.rxp.inReception) = true := by
    simp [entering, low, noFrame]
  rw [State.testWait, if_pos test, State.switchToPart_eq, State.cutFrame_none noFrame]
  rfl

/-- Else the wait goes on (R6, R8). -/
theorem State.testWait_waits
    (waits : s.prc.presence ≠ .entering ∨ s.pins.hostTxActive = true ∨ s.rxp.inReception = true) : s.testWait = s := by
  have test : (s.prc.presence == .entering && !s.pins.hostTxActive && !s.rxp.inReception) = false := by
    obtain other | high | frame := waits
    · simp [other]
    · simp [high]
    · simp [frame]
  rw [State.testWait, test, if_neg Bool.false_ne_true]

end

/-- Settles O13, by what RXP holds and by the three conditions of the wait. -/
theorem cutAndWaitTest : Obligations.CutAndWaitTest := by
  intro s
  refine ⟨fun b f => State.cutFrame_storing, fun f => State.cutFrame_unstored, fun noFrame => ?none,
    fun r rest entering low noFrame requests => ?switches, State.testWait_waits, fun frame => ?cut, fun noFrame => ?same⟩
  case none =>
    refine State.cutFrame_none ?_
    obtain idle | ignoring := noFrame
    · rw [idle]
      rfl
    · rw [ignoring]
      rfl
  case switches =>
    rw [State.testWait_switches entering low noFrame, State.respond_of_requests (s := s.switched) requests]
    rfl
  case cut => rw [State.cutAndReport, if_pos frame]
  case same => rw [State.cutAndReport, noFrame, if_neg Bool.false_ne_true]

/-! ### HANDOVER -/

section
variable {s : State}

theorem runHandover_of_not_passive (other : s.prc.presence ≠ .passive) :
    runHandover [] s = s.respond .wrongState [0] := by
  simp only [runHandover, bne_iff_ne.mpr other, if_true]

theorem runHandover_of_bad_record (passive : s.prc.presence = .passive) (bad : s.factory.good = false) :
    runHandover [] s = s.respond .noIdentity [0] := by
  simp only [runHandover, passive, bne_self_eq_false, bad, Bool.not_false, Bool.false_eq_true, if_false, if_true]

theorem runHandover_of_records (passive : s.prc.presence = .passive) (good : s.factory.good = true)
    (records : s.wlog.records ≠ []) : runHandover [] s = s.respond .pendingWakes [0] := by
  have waiting : s.wlog.records.isEmpty = false := by simpa using records
  simp only [runHandover, passive, bne_self_eq_false, good, waiting, Bool.not_true, Bool.not_false, Bool.false_eq_true,
    if_false, if_true]

/-- PRC as HANDOVER leaves it in ENTERING (R5). -/
def State.enteringNow (s : State) : State :=
  { s with prc := { s.prc with
    presence := .entering, pendingResponse := .handover
    handoverDeadline := some (s.clock + s.settings.handoverDeadlineMs * 1000000) } }

/-- HANDOVER with its conditions met enters ENTERING and tests the wait (R5, R6). -/
theorem runHandover_enters (passive : s.prc.presence = .passive) (good : s.factory.good = true)
    (empty : s.wlog.records = []) : runHandover [] s = s.enteringNow.testWait := by
  simp only [runHandover, passive, bne_self_eq_false, good, empty, List.isEmpty_nil, Bool.not_true, Bool.false_eq_true,
    if_false]
  rfl

end

/-- Settles O11, by the three conditions in their order and then the wait. -/
theorem handoverSwitchesWaitsOrRefuses : Obligations.HandoverSwitchesWaitsOrRefuses := by
  refine ⟨fun s tag ready passive good empty => ⟨fun low noFrame => ?switches, fun waits => ?waits⟩,
    fun s tag ready => ⟨fun other => ?wrongState, fun passive bad => ?noIdentity,
      fun passive good records => ?pendingWakes⟩⟩
  case switches =>
    have enters := runHandover_enters (s := s.awaiting ⟨0x06, tag, []⟩) passive good empty
    exact congrArg _ (takeRequest_answers_keeping (m := ⟨0x06, tag, []⟩) (st := .ok)
      (u := (s.awaiting ⟨0x06, tag, []⟩).enteringNow.switched) ready
      (enters.trans (State.testWait_switches rfl low noFrame)) rfl rfl)
  case waits =>
    have enters := runHandover_enters (s := s.awaiting ⟨0x06, tag, []⟩) passive good empty
    exact congrArg _ (takeRequest_awaits (m := ⟨0x06, tag, []⟩)
      (u := (s.awaiting ⟨0x06, tag, []⟩).enteringNow) ready
      (enters.trans (State.testWait_waits (.inr waits))) rfl ready.quiet)
  case wrongState =>
    exact congrArg _ (takeRequest_answers_unchanged (m := ⟨0x06, tag, []⟩) ready
      (runHandover_of_not_passive (s := s.awaiting ⟨0x06, tag, []⟩) other))
  case noIdentity =>
    exact congrArg _ (takeRequest_answers_unchanged (m := ⟨0x06, tag, []⟩) ready
      (runHandover_of_bad_record (s := s.awaiting ⟨0x06, tag, []⟩) passive bad))
  case pendingWakes =>
    exact congrArg _ (takeRequest_answers_unchanged (m := ⟨0x06, tag, []⟩) ready
      (runHandover_of_records (s := s.awaiting ⟨0x06, tag, []⟩) passive good records))

/-! ### The end of ENTERING -/

section
variable {s : State}

/-- At its deadline ENTERING ends by the forced switch (R7). -/
theorem State.handoverDeadlineExpires_due {d : Nat} (entering : s.prc.presence = .entering)
    (deadline : s.prc.handoverDeadline = some d) (due : d ≤ s.clock) :
    s.handoverDeadlineExpires = s.cutFrame.switched.respond .ok [1] := by
  have dueNow : s.handoverDeadlineDue = true := by
    unfold State.handoverDeadlineDue
    rw [deadline]
    simp [entering, due]
  rw [State.handoverDeadlineExpires, if_pos dueNow, State.switchToPart_eq]
  rfl

end

/-- Settles O12, by the deadline, and at a fall by the wait's other two conditions. -/
theorem enteringEndsByDeadlineOrFall : Obligations.EnteringEndsByDeadlineOrFall := by
  refine ⟨fun s r rest d entering deadline due requests => ?deadline, fun s r rest entering noFrame requests => ?fall,
    fun s waits => ?waits, fun s => rfl⟩
  case deadline =>
    refine hostAfter_congr ((State.handoverDeadlineExpires_due entering deadline due).trans ?_)
    rw [State.respond_of_requests (s := s.cutFrame.switched) (r := r) (rest := rest) (by simpa [State.switched])]
    simp only [State.switched, State.cutFrame_keeps]
    rfl
  case fall =>
    let fallen : State := { s with pins := { s.pins with hostTxActive := false } }
    have falls : fallen.testWait = fallen.switched.respond .ok [0] := State.testWait_switches entering rfl noFrame
    exact hostAfter_congr (falls.trans (State.respond_of_requests (s := fallen.switched) requests .ok [0]))
  case waits =>
    refine hostAfter_congr (State.testWait_waits ?_)
    exact waits.imp_right .inr

end Sys2Proof.Machine
end

/-! RECLAIM and WAKE_ACK (R14, R15, R16, R87); O14. -/

section
namespace Sys2Proof.Machine

section
variable {s : State}

/-- The cut changes RXP, the pool and the counters alone (R28). -/
theorem State.cutFrame_parts (s : State) : s.cutFrame =
    { s with rxp := s.cutFrame.rxp, pool := s.cutFrame.pool, counters := s.cutFrame.counters } := by
  unfold State.cutFrame
  split <;> rfl

/-- The cut does not look at the host link (R28). -/
theorem State.cutFrame_awaiting (s : State) (m : Message) :
    (s.awaiting m).cutFrame = { s.cutFrame with link := (s.awaiting m).link } := by
  cases rxp : s.rxp with
  | storing b f =>
    rw [State.cutFrame_storing (s := s.awaiting m) rxp, State.cutFrame_storing rxp]
    rfl
  | streaming f =>
    rw [State.cutFrame_unstored (s := s.awaiting m) (.inl rxp), State.cutFrame_unstored (.inl rxp)]
    rfl
  | discarding f =>
    rw [State.cutFrame_unstored (s := s.awaiting m) (.inr rxp), State.cutFrame_unstored (.inr rxp)]
    rfl
  | idle =>
    have noFrame : s.rxp.inReception = false := by rw [rxp]; rfl
    rw [State.cutFrame_none (s := s.awaiting m) noFrame, State.cutFrame_none noFrame]
    rfl
  | ignoring =>
    have noFrame : s.rxp.inReception = false := by rw [rxp]; rfl
    rw [State.cutFrame_none (s := s.awaiting m) noFrame, State.cutFrame_none noFrame]
    rfl

/-- RECLAIM with nothing in transmission flushes every waiting reply (R87). -/
theorem State.flushWaiting_silent (silent : s.phyTxen = false) :
    s.flushWaiting = ({ s with txq := { s.txq with queue := [] } } : State).flushReplies s.txq.queue := by
  unfold State.phyTxen at silent
  unfold State.flushWaiting
  cases transmitter : s.txq.transmitter
  case sending => simp [transmitter] at silent
  all_goals rfl

/-- RECLAIM with a reply in transmission flushes those behind it (R87). -/
theorem State.flushWaiting_sending (sending : s.phyTxen = true) : s.flushWaiting =
    ({ s with txq := { s.txq with queue := s.txq.queue.take 1 } } : State).flushReplies (s.txq.queue.drop 1) := by
  unfold State.phyTxen at sending
  unfold State.flushWaiting
  cases transmitter : s.txq.transmitter
  case sending => rfl
  all_goals simp [transmitter] at sending

theorem runReclaim_of_passive (passive : s.prc.presence = .passive) : runReclaim [] s = s.respond .ok [1, 0] := by
  simp only [runReclaim, passive]

theorem runReclaim_of_proxy (proxy : s.prc.presence.isProxy = true) : runReclaim [] s = s.beginLeaving := by
  unfold runReclaim
  cases presence : s.prc.presence <;> simp [presence, Presence.isProxy] at proxy ⊢

/-- What stands after RECLAIM with nothing in transmission: the queue flushed, then the frame in reception cut. -/
theorem State.beginLeaving_silent (silent : s.phyTxen = false) :
    ∃ (pool : Vector Buffer 10) (counters : Vector Word 23), s.beginLeaving = ({ s.cutFrame with
        prc := { s.prc with
          presence := .passive, wakeAckTimer := none, pulseEnd := none, escalations := 0, pendingResponse := .none }
        txq := { s.txq with queue := [] }
        pool := pool, counters := counters } : State).respond .ok [0, BitVec.ofNat 8 s.prc.escalations.val]
      ∧ (∀ i : Fin 10, pool[i].bytes = s.pool[i].bytes
        ∧ pool[i].owner = if i ∈ s.txq.queue.map QueuedReply.buf then .free else s.cutFrame.pool[i].owner)
      ∧ counters[(17 : Fin 23)] = s.counters[(17 : Fin 23)] + BitVec.ofNat 32 s.txq.queue.length
      ∧ ∀ p : Fin 23, p ≠ 17 → counters[p] = s.cutFrame.counters[p] := by
  let emptied : State := { s.withdrawing with txq := { s.txq with queue := [] } }
  obtain ⟨P, C, flushed, freed, counted, others⟩ := State.flushReplies_eq s.txq.queue emptied
  let u : State := { emptied with pool := P, counters := C }
  obtain ⟨rxp, owners, cut, cutOthers⟩ := s.cutFrame_effect
  obtain ⟨uRxp, uOwners, uCut, uCutOthers⟩ := u.cutFrame_effect
  have sameRxp : u.cutFrame.rxp = s.cutFrame.rxp := uRxp.trans rxp.symm
  refine ⟨u.cutFrame.pool, u.cutFrame.counters, ?_, fun i => ⟨?_, ?_⟩, ?_, fun p other => ?_⟩
  · have leaves : s.beginLeaving = u.leavingEnd := by
      rw [State.beginLeaving_eq, silent, if_neg Bool.false_ne_true]
      refine congrArg State.leavingEnd ?_
      exact (State.flushWaiting_silent (s := s.withdrawing) silent).trans flushed
    rw [leaves, State.leavingEnd, u.cutFrame_parts, s.cutFrame_parts, sameRxp]
    rfl
  · rw [(uOwners i).1]
    exact (freed i).1
  · by_cases storing : ∃ f, s.rxp = .storing i f
    · rw [(uOwners i).2.1 storing, (owners i).2.1 storing, ite_self]
    · rw [(uOwners i).2.2 storing, (owners i).2.2 storing]
      exact (freed i).2
  · rw [uCutOthers 17 (by decide)]
    exact counted
  · by_cases seven : p = 7
    · subst seven
      rw [uCut, cut]
      exact congrArg (· + _) (others 7 (by decide))
    · rw [uCutOthers p seven, cutOthers p seven]
      exact others p other

/-- What stands after RECLAIM with a reply in transmission: LEAVING, with that reply alone in the queue. -/
theorem State.beginLeaving_sending (sending : s.phyTxen = true) :
    ∃ (pool : Vector Buffer 10) (counters : Vector Word 23), s.beginLeaving = ({ s with
        prc := { s.prc with
          presence := .leaving, wakeAckTimer := none, pulseEnd := none, pendingResponse := .reclaim }
        txq := { s.txq with queue := s.txq.queue.take 1 }
        pool := pool, counters := counters } : State)
      ∧ (∀ i : Fin 10, pool[i].bytes = s.pool[i].bytes
        ∧ pool[i].owner = if i ∈ (s.txq.queue.drop 1).map QueuedReply.buf then .free else s.pool[i].owner)
      ∧ counters[(17 : Fin 23)] = s.counters[(17 : Fin 23)] + BitVec.ofNat 32 (s.txq.queue.drop 1).length
      ∧ ∀ p : Fin 23, p ≠ 17 → counters[p] = s.counters[p] := by
  obtain ⟨P, C, flushed, freed, counted, others⟩ := State.flushReplies_eq (s.txq.queue.drop 1)
    { s.withdrawing with txq := { s.txq with queue := s.txq.queue.take 1 } }
  refine ⟨P, C, ?_, freed, counted, others⟩
  rw [State.beginLeaving_eq, sending, if_pos rfl]
  exact (State.flushWaiting_sending (s := s.withdrawing) sending).trans flushed

/-- WAKE_ACK in WAKING and ESCALATED (R14). -/
theorem runWakeAck_of_wake (wake : s.prc.presence = .waking ∨ s.prc.presence = .escalated) : runWakeAck [] s =
    { s with prc := { s.prc with
      presence := .proxy, wakeAckTimer := none, pulseEnd := none, escalations := 0 } }.respond .ok
        [BitVec.ofNat 8 s.prc.escalations.val] := by
  obtain waking | escalated := wake
  · simp only [runWakeAck, waking]
  · simp only [runWakeAck, escalated]

end

/-- Settles O14, by the presence state and by whether a reply is in transmission. -/
theorem reclaimAndWakeAck : Obligations.ReclaimAndWakeAck := by
  refine ⟨fun s tag ready => ⟨fun passive => ?passive, fun proxy silent => ?silent, fun proxy sending => ?sending⟩,
    fun s tag ready => ⟨fun wake => ?wake, fun proxy => ?proxy, fun passive => ?refused⟩⟩
  case passive =>
    exact congrArg _ (takeRequest_answers_unchanged (m := ⟨0x07, tag, []⟩) ready
      (runReclaim_of_passive (s := s.awaiting ⟨0x07, tag, []⟩) passive))
  case silent =>
    obtain ⟨pool, counters, leaves, effects⟩ := State.beginLeaving_silent (s := s.awaiting ⟨0x07, tag, []⟩) silent
    rw [State.cutFrame_awaiting] at leaves effects
    have run := (runReclaim_of_proxy (s := s.awaiting ⟨0x07, tag, []⟩) proxy).trans leaves
    have answered := takeRequest_answers_keeping (m := ⟨0x07, tag, []⟩) (st := .ok) ready run rfl (by simp)
    have link : s.cutFrame.link = s.link := by simp
    rw [← link] at answered
    exact ⟨pool, counters, congrArg _ answered, effects⟩
  case sending =>
    obtain ⟨pool, counters, leaves, effects⟩ := State.beginLeaving_sending (s := s.awaiting ⟨0x07, tag, []⟩) sending
    have run := (runReclaim_of_proxy (s := s.awaiting ⟨0x07, tag, []⟩) proxy).trans leaves
    exact ⟨pool, counters, congrArg _ (takeRequest_awaits (m := ⟨0x07, tag, []⟩) ready run rfl ready.quiet), effects⟩
  case wake =>
    exact congrArg _ (takeRequest_answers_keeping (m := ⟨0x08, tag, []⟩) (st := .ok) ready
      (runWakeAck_of_wake (s := s.awaiting ⟨0x08, tag, []⟩) wake) rfl rfl)
  case proxy =>
    have run : runWakeAck [] (s.awaiting ⟨0x08, tag, []⟩) = (s.awaiting ⟨0x08, tag, []⟩).respond .ok [0] := by
      have proxy' : (s.awaiting ⟨0x08, tag, []⟩).prc.presence = .proxy := proxy
      simp only [runWakeAck, proxy']
    exact congrArg _ (takeRequest_answers_unchanged (m := ⟨0x08, tag, []⟩) ready run)
  case refused =>
    have run : runWakeAck [] (s.awaiting ⟨0x08, tag, []⟩) = (s.awaiting ⟨0x08, tag, []⟩).respond .wrongState [0] := by
      have passive' : (s.awaiting ⟨0x08, tag, []⟩).prc.presence = .passive := passive
      simp only [runWakeAck, passive']
    exact congrArg _ (takeRequest_answers_unchanged (m := ⟨0x08, tag, []⟩) ready run)

end Sys2Proof.Machine
end

/-! The warm reset as an equation (R57, R79, R105, R128, R171, R188, R189); O8. -/

section
namespace Sys2Proof.Machine

/-! ### TABLES and the templates -/

theorem templatesAfterTablesReset_get (answers : Vector (Option AnswerEntry) 32) (templates : Vector (Option Template) 16)
    (id : Fin 16) : (templatesAfterTablesReset answers templates)[id] =
      if lowestNaming answers id = none then none else templates[id] := by
  unfold templatesAfterTablesReset
  cases naming : lowestNaming answers id <;> simp [naming]

/-- The entries that a TABLES reset leaves are the protected ones (R79). -/
theorem filter_protected_get (answers : Vector (Option AnswerEntry) 32) (i : Fin 32) (e : AnswerEntry) :
    (answers.map fun slot : Option AnswerEntry => slot.filter (·.isProtected))[i] = some e ↔
      answers[i] = some e ∧ e.isProtected = true := by
  simp [Option.filter_eq_some_iff]

/-! ### LOG and the pool -/

/-- Freeing a capture slot frees the buffer it holds and the slot, and touches nothing else (R98). -/
theorem State.freeSlot_eq (s : State) (k : Fin 2) : s.freeSlot k =
    { s with pool := (s.freeSlot k).pool, wlog := { s.wlog with slots := s.wlog.slots.set k none } } := by
  unfold State.freeSlot
  split
  · rename_i free
    have same : s.wlog.slots.set k none = s.wlog.slots := by
      rw [← free]
      exact Vector.set_getElem_self k.isLt
    rw [same]
  · rfl

/-- The pool after a capture slot is freed (R98). -/
theorem State.freeSlot_pool_get (s : State) (k : Fin 2) (b : Fin 10) : (s.freeSlot k).pool[b] =
    if s.wlog.slots[k] = some b then { s.pool[b] with owner := .free } else s.pool[b] := by
  unfold State.freeSlot
  split
  · rename_i free
    rw [free, if_neg (by simp)]
  · rename_i c used
    rw [used]
    show (s.pool.set c { s.pool[c] with owner := .free })[b] = _
    rw [Vector.get_set]
    rcases eq_or_ne b c with rfl | other
    · simp
    · simp [other.symm]

/-- The pool rests on the pool and the slots alone. -/
theorem State.freeSlot_pool_congr {s t : State} (pool : s.pool = t.pool) (slots : s.wlog.slots = t.wlog.slots)
    (k : Fin 2) : (s.freeSlot k).pool = (t.freeSlot k).pool := by
  apply Vector.ext
  intro i inside
  have s_get := s.freeSlot_pool_get k ⟨i, inside⟩
  have t_get := t.freeSlot_pool_get k ⟨i, inside⟩
  rw [pool, slots] at s_get
  exact s_get.trans t_get.symm

/-- Both slots freed (R105). -/
theorem slots_both_free (slots : Vector (Option (Fin 10)) 2) :
    (slots.set (0 : Fin 2) none).set (1 : Fin 2) none = Vector.replicate 2 none := by
  apply Vector.ext
  intro i inside
  interval_cases i <;> simp

/-- The LOG member: no record, both slots and their buffers free, the numbering kept (R105). -/
theorem State.resetLogScope_eq (s : State) : s.resetLogScope =
    { s with
      wlog := { s.wlog with records := [], slots := Vector.replicate 2 none }
      pool := ((s.freeSlot 0).freeSlot 1).pool } := by
  have first : (s.freeSlot 0).wlog = { s.wlog with slots := s.wlog.slots.set (0 : Fin 2) none } := by
    rw [State.freeSlot_eq]
  have both : (s.freeSlot 0).freeSlot 1 = { s with
      pool := ((s.freeSlot 0).freeSlot 1).pool
      wlog := { s.wlog with slots := Vector.replicate 2 none } } := by
    refine (State.freeSlot_eq (s.freeSlot 0) 1).trans ?_
    rw [← slots_both_free s.wlog.slots]
    simp only [State.freeSlot_keeps, first]
  unfold State.resetLogScope
  rw [both]

/-- Both slots freed leave the pool by what the slots held (R105). -/
theorem State.freeSlots_pool_get (s : State) (b : Fin 10) : ((s.freeSlot 0).freeSlot 1).pool[b] =
    if s.wlog.slots[0] = some b ∨ s.wlog.slots[1] = some b then { s.pool[b] with owner := .free } else s.pool[b] := by
  have slots : (s.freeSlot 0).wlog.slots[(1 : Fin 2)] = s.wlog.slots[1] := by
    rw [State.freeSlot_eq]
    simp
  rw [State.freeSlot_pool_get, slots, State.freeSlot_pool_get]
  by_cases first : s.wlog.slots[0] = some b <;> by_cases second : s.wlog.slots[1] = some b <;> simp [first, second]

/-! ### DESCRIPTOR -/

/-- DESC's part of a RESET, by its state and the transaction in progress (R128). -/
theorem State.resetDescriptorScope_eq (s : State) : s.resetDescriptorScope = { s with desc :=
    match s.desc.state, s.desc.transaction with
    | .clearing, _ => s.desc
    | .verifying, _ => s.desc
    | .published, some _ => { s.desc with deferred := .reset }
    | .published, none => { s.desc with
        state := .clearing, readyLow := s.time, page := 0, readOffset := 0, holdDownEnd := none
        passLatest := some (s.clock + 1000000) }
    | _, _ => { s.desc with state := .clearing, holdDownEnd := none, passLatest := some (s.clock + 1000000) } } := by
  unfold State.resetDescriptorScope
  cases state : s.desc.state
  case published => cases s.desc.transaction <;> rfl
  all_goals rfl

/-! ### The named members -/

section
variable (s : State) (scope : Byte)

/-- The pool after both slots are freed rests on the pool and the slots alone (R105). -/
theorem State.freeSlots_pool_congr {s t : State} (pool : t.pool = s.pool) (slots : t.wlog.slots = s.wlog.slots) :
    ((t.freeSlot 0).freeSlot 1).pool = ((s.freeSlot 0).freeSlot 1).pool := by
  refine State.freeSlot_pool_congr (State.freeSlot_pool_congr pool slots 0) ?_ 1
  rw [State.freeSlot_eq t, State.freeSlot_eq s, slots]

/-- A warm reset does not look at the host link (R189). -/
theorem State.namedScopes_awaiting (m : Message) :
    (s.awaiting m).namedScopes scope = { s.namedScopes scope with link := (s.awaiting m).link } := by
  unfold State.namedScopes
  rw [State.freeSlots_pool_congr (s := s) (t := s.awaiting m) rfl rfl]
  rfl

theorem State.resetNamed_tables : (if names scope .tables then s.resetMember .tables else s) = { s with
    filters := if names scope .tables then s.filters.filter (·.isProtected) else s.filters
    answers := if names scope .tables then
      s.answers.map (fun slot : Option AnswerEntry => slot.filter (·.isProtected)) else s.answers
    templates := if names scope .tables then
      templatesAfterTablesReset (s.answers.map fun slot : Option AnswerEntry => slot.filter (·.isProtected)) s.templates
      else s.templates } := by
  split <;> rfl

theorem State.resetNamed_log : (if names scope .log then s.resetMember .log else s) = { s with
    wlog := if names scope .log then { s.wlog with records := [], slots := Vector.replicate 2 none } else s.wlog
    pool := if names scope .log then ((s.freeSlot 0).freeSlot 1).pool else s.pool } := by
  split
  · exact s.resetLogScope_eq
  · rfl

theorem State.resetNamed_counters : (if names scope .counters then s.resetMember .counters else s) = { s with
    counters := if names scope .counters then Vector.replicate 23 0 else s.counters } := by
  split <;> rfl

theorem State.resetNamed_descriptor : (if names scope .descriptor then s.resetMember .descriptor else s) = { s with
    desc := if names scope .descriptor then s.resetDescriptorScope.desc else s.desc } := by
  split
  · show s.resetDescriptorScope = _
    rw [State.resetDescriptorScope_eq]
  · rfl

theorem State.resetNamed_settings : (if names scope .settings then s.resetMember .settings else s) = { s with
    settings := if names scope .settings then Settings.default else s.settings } := by
  split <;> rfl

theorem State.resetNamed_alarms : (if names scope .alarms then s.resetMember .alarms else s) = { s with
    alarms := if names scope .alarms then alarmsCold else s.alarms } := by
  split <;> rfl

/-- The members of a warm reset together (R189). -/
theorem State.resetScopes_eq : s.resetScopes scope = { s.namedScopes scope with
    desc := if names scope .descriptor then s.resetDescriptorScope.desc else s.desc } := by
  have desc : ∀ t : State, t.desc = s.desc → t.time = s.time → t.clock = s.clock →
      t.resetDescriptorScope.desc = s.resetDescriptorScope.desc := by
    intro t sameDesc time clock
    rw [State.resetDescriptorScope_eq, State.resetDescriptorScope_eq, sameDesc, time, clock]
  simp only [State.resetScopes, List.foldl_cons, List.foldl_nil, State.resetNamed_tables, State.resetNamed_log,
    State.resetNamed_counters, State.resetNamed_descriptor, State.resetNamed_settings, State.resetNamed_alarms]
  rw [State.freeSlots_pool_congr (s := s), desc]
  all_goals rfl

end

/-! ### O8 -/

theorem runReset_bad_scope {s : State} {scope : Byte} (undefined : scope &&& 0xC0 ≠ 0) :
    runReset [scope] s = s.respond .badArgument [] := by
  simp only [runReset, bne_iff_ne.mpr undefined, if_true]

theorem runReset_not_passive {s : State} {scope : Byte} (defined : scope &&& 0xC0 = 0)
    (other : s.prc.presence ≠ .passive) : runReset [scope] s = s.respond .wrongState [] := by
  simp only [runReset, defined, bne_self_eq_false, bne_iff_ne.mpr other, Bool.false_eq_true, if_false, if_true]

/-- Settles O8: the templates and the pool position by position, then RESET by its scope and the presence state. -/
theorem warmResetByScope : Obligations.WarmResetByScope := by
  refine ⟨fun s scope id => ⟨fun unnamed => ?kept, fun named => ?stays, fun reset unnamed => ?undefined⟩,
    fun s scope b => ?pool, fun s m tag others scope ready scope_eq => ?_⟩
  case kept => simp [State.namedScopes, unnamed]
  case stays =>
    obtain ⟨i, e, entry, isProtected, template⟩ := named
    have naming : lowestNaming (s.answers.map fun slot : Option AnswerEntry => slot.filter (·.isProtected)) id ≠ none := by
      rw [ne_eq, lowestNaming_eq_none_iff]
      exact fun unnamed => unnamed i e ((filter_protected_get _ i e).mpr ⟨entry, isProtected⟩) template
    have stays := templatesAfterTablesReset_get
      (s.answers.map fun slot : Option AnswerEntry => slot.filter (·.isProtected)) s.templates id
    rw [if_neg naming] at stays
    simp only [State.namedScopes]
    split
    · exact stays
    · rfl
  case undefined =>
    have naming : lowestNaming (s.answers.map fun slot : Option AnswerEntry => slot.filter (·.isProtected)) id = none := by
      rw [lowestNaming_eq_none_iff]
      intro i e entry
      obtain ⟨entry, isProtected⟩ := (filter_protected_get _ i e).mp entry
      exact unnamed i e entry isProtected
    have goes := templatesAfterTablesReset_get
      (s.answers.map fun slot : Option AnswerEntry => slot.filter (·.isProtected)) s.templates id
    rw [if_pos naming] at goes
    simp only [State.namedScopes, reset, if_true]
    exact goes
  case pool =>
    simp only [State.namedScopes]
    by_cases named : names scope .log = true
    · simpa [named] using s.freeSlots_pool_get b
    · simp [named]
  · subst scope_eq
    rw [exec_resetRow]
    refine ⟨fun undefined => ?_, fun defined other => ?_, fun defined passive without => ?_,
      fun defined passive descriptor => ?_⟩
    · exact congrArg _ (takeRequest_answers_unchanged (m := ⟨0x03, tag, [others ||| m.bit]⟩) ready
        (runReset_bad_scope (s := s.awaiting ⟨0x03, tag, [others ||| m.bit]⟩) undefined))
    · exact congrArg _ (takeRequest_answers_unchanged (m := ⟨0x03, tag, [others ||| m.bit]⟩) ready
        (runReset_not_passive (s := s.awaiting ⟨0x03, tag, [others ||| m.bit]⟩) defined other))
    · rw [takeRequest_reset ready passive defined, without, if_neg Bool.false_ne_true, State.resetScopes_eq, without,
        if_neg Bool.false_ne_true, State.namedScopes_awaiting]
      rfl
    · rw [takeRequest_reset ready passive defined, descriptor, if_pos rfl, State.resetScopes_eq, descriptor, if_pos rfl,
        State.resetDescriptorScope_eq, State.namedScopes_awaiting]
      rfl

end Sys2Proof.Machine
end

/-! The frame assembler, the request queue and the refusals of R180 (R174 to R177, R194); O16 to O19 and O21. -/

section
namespace Sys2Proof.Machine

/-! ### A request row -/

/-- A request row takes its frame from the assembler (R174, R177). -/
theorem exec_of_requestOf {c : Instr} {m : Message} (request : requestOf c = some m) (s : State) :
    exec c s = .next (s.takeRequest m) := by
  cases c <;> cases request <;> rfl

/-- A row's body fits its frame (R174). -/
theorem body_length_of_wellFormed {c : Instr} {m : Message} (request : requestOf c = some m)
    (wellFormed : c.wellFormed = true) : m.body.length ≤ 248 := by
  cases c <;> cases request
  all_goals
    simp only [Instr.wellFormed, bodyFits, Bool.and_eq_true, decide_eq_true_eq] at wellFormed
    simp only [List.length_cons, List.length_nil]
    omega

section
variable {s : State}

theorem State.takeRequest_running (running : s.link.startUp = .running) (m : Message) :
    s.takeRequest m = s.hostAfter (s.hunt.offerFrame m) := by
  have takes : s.takesBytes = true := by rw [State.takesBytes, running]; rfl
  rw [State.takeRequest, if_pos takes]
  rfl

theorem State.takeRequest_not_running (notRunning : s.link.startUp ≠ .running) (m : Message) : s.takeRequest m = s := by
  have takes : s.takesBytes = false := by simpa [State.takesBytes] using notRunning
  rw [State.takeRequest, takes, if_neg Bool.false_ne_true]

theorem State.offerFrame_room (room : s.link.requests.length < 4) (m : Message) :
    s.offerFrame m = { s with link := { s.link with requests := s.link.requests ++ [m] } } := if_pos room

theorem State.offerFrame_full (full : 4 ≤ s.link.requests.length) (m : Message) : s.offerFrame m = { s with
    counters := s.counters.set 19 (s.counters[(19 : Fin 23)] + 1)
    events := s.events.raise .linkFault s.time } := if_neg (Nat.not_lt.mpr full)

end

/-- Settles O19, by the room in the request queue. -/
theorem requestQueueAppendsOrDrops : Obligations.RequestQueueAppendsOrDrops := by
  intro s c m request running
  rw [exec_of_requestOf request, State.takeRequest_running running]
  refine ⟨fun room => ?_, fun full => ?_⟩
  · exact hostAfter_congr (State.offerFrame_room (s := s.hunt) room m)
  · exact hostAfter_congr (State.offerFrame_full (s := s.hunt) full m)

/-! ### A byte taken -/

section
variable {s : State} {b : Byte} {len last limit : Nat} {taken : List Byte}

theorem exec_hostLinkByte_running (running : s.link.startUp = .running) (b : Byte) :
    exec (.hostLinkByte b) s = .next (s.hostAfter (s.takeLinkByte b)) := by
  have takes : s.takesBytes = true := by rw [State.takesBytes, running]; rfl
  exact congrArg _ (if_pos takes)

theorem exec_hostLinkByte_not_running (notRunning : s.link.startUp ≠ .running) (b : Byte) :
    exec (.hostLinkByte b) s = .next s := by
  have takes : s.takesBytes = false := by simpa [State.takesBytes] using notRunning
  exact congrArg _ (if_neg (by rw [takes]; exact Bool.false_ne_true))

theorem State.takeLinkByte_start (hunting : s.link.assembler = .hunt) : s.takeLinkByte 0xA5 =
    { s with link := { s.link with assembler := .length s.clock (2 ^ s.settings.linkGapExp * 1000000) } } := by
  unfold State.takeLinkByte
  rw [hunting]
  rfl

theorem State.takeLinkByte_hunting (hunting : s.link.assembler = .hunt) (other : b ≠ 0xA5) : s.takeLinkByte b = s := by
  unfold State.takeLinkByte
  rw [hunting]
  exact if_neg other

theorem State.takeLinkByte_length (atLength : s.link.assembler = .length last limit) (low : 2 ≤ b.toNat)
    (high : b.toNat ≤ 250) :
    s.takeLinkByte b = { s with link := { s.link with assembler := .gather b.toNat [] s.clock limit } } := by
  unfold State.takeLinkByte
  rw [atLength]
  exact if_pos ⟨low, high⟩

theorem State.takeLinkByte_bad_length (atLength : s.link.assembler = .length last limit)
    (bad : b.toNat < 2 ∨ 250 < b.toNat) : s.takeLinkByte b = s.discardFrame := by
  unfold State.takeLinkByte
  rw [atLength]
  exact if_neg (by omega)

theorem State.takeLinkByte_within (gathering : s.link.assembler = .gather len taken last limit)
    (within : taken.length + 1 < len + 2) : s.takeLinkByte b =
      { s with link := { s.link with assembler := .gather len (taken ++ [b]) s.clock limit } } := by
  unfold State.takeLinkByte
  rw [gathering]
  exact if_pos within

theorem State.takeLinkByte_last {m : Message} (gathering : s.link.assembler = .gather len taken last limit)
    (whole : len + 2 ≤ taken.length + 1) (good : gathered len (taken ++ [b]) = some m) :
    s.takeLinkByte b = s.hunt.offerFrame m := by
  unfold State.takeLinkByte
  rw [gathering]
  dsimp only
  rw [if_neg (by omega), good]

theorem State.takeLinkByte_bad_check (gathering : s.link.assembler = .gather len taken last limit)
    (whole : len + 2 ≤ taken.length + 1) (bad : gathered len (taken ++ [b]) = none) :
    s.takeLinkByte b = s.discardFrame := by
  unfold State.takeLinkByte
  rw [gathering]
  dsimp only
  rw [if_neg (by omega), bad]

/-- A whole frame with its check is its message (R174, R175). -/
theorem gathered_of_check {bytes : List Byte} (kind tag : Byte) (body : List Byte) (length : len = body.length + 2)
    (check : bytes = kind :: tag :: (body ++ crc16Bytes (BitVec.ofNat 8 len :: kind :: tag :: body))) :
    gathered len bytes = some ⟨kind, tag, body⟩ := by
  have taken : bytes.take len = kind :: tag :: body := by simp [check, length]
  have dropped : bytes.drop len = crc16Bytes (BitVec.ofNat 8 len :: kind :: tag :: body) := by
    subst check length
    simp
  simp [gathered, taken, dropped]

/-- A whole frame with a wrong check is no message (R175). -/
theorem gathered_of_bad_check (b : Byte) (low : 2 ≤ len) (whole : taken.length = len + 1)
    (bad : (taken ++ [b]).drop len ≠ crc16Bytes (BitVec.ofNat 8 len :: taken.take len)) :
    gathered len (taken ++ [b]) = none := by
  have front : (taken ++ [b]).take len = taken.take len := List.take_append_of_le_length (by omega)
  have long : 2 ≤ (taken.take len).length := by
    rw [List.length_take]
    omega
  match split : taken.take len, long with
  | kind :: tag :: body, _ =>
    rw [split] at front bad
    simp only [gathered, front, if_neg bad]

end

/-- Settles O17, by the assembler's state and the byte. -/
theorem assemblerTakesBytes : Obligations.AssemblerTakesBytes := by
  refine ⟨fun s b running => ?_, fun s b c m notRunning request => ⟨exec_hostLinkByte_not_running notRunning b, ?_⟩⟩
  · rw [exec_hostLinkByte_running running]
    refine ⟨fun hunting start => ?_, fun hunting other => ?_, fun last limit atLength low high => ?_,
      fun len taken last limit gathering within => ?_,
      fun len taken last limit kind tag body gathering length room check => ?_⟩
    · subst start
      exact hostAfter_congr (State.takeLinkByte_start hunting)
    · exact hostAfter_congr (State.takeLinkByte_hunting hunting other)
    · exact hostAfter_congr (State.takeLinkByte_length atLength low high)
    · exact hostAfter_congr (State.takeLinkByte_within gathering within)
    · have whole : taken.length + 1 = len + 2 := by
        have total := congrArg List.length check
        simp only [List.length_append, List.length_cons, List.length_nil, crc16Bytes_length] at total
        omega
      refine hostAfter_congr ((State.takeLinkByte_last gathering whole.ge (gathered_of_check kind tag body length check)).trans ?_)
      exact State.offerFrame_room (s := s.hunt) room _
  · rw [exec_of_requestOf request, State.takeRequest_not_running notRunning]

/-- Settles O18, by the length byte, the check, and the gap limit. -/
theorem assemblerDiscardsFrames : Obligations.AssemblerDiscardsFrames := by
  refine ⟨fun s b running bad => ?_, fun s => rfl, fun s last limit passed within => ?_⟩
  · rw [exec_hostLinkByte_running running]
    obtain ⟨last, limit, atLength, bad⟩ | ⟨len, taken, last, limit, gathering, low, whole, bad⟩ := bad
    · exact hostAfter_congr (State.takeLinkByte_bad_length atLength bad)
    · exact hostAfter_congr (State.takeLinkByte_bad_check gathering (by omega) (gathered_of_bad_check b low whole bad))
  · have due : s.gapTimeoutDue = true := by
      unfold State.gapTimeoutDue
      obtain atLength | ⟨len, taken, gathering⟩ := within
      · rw [atLength]
        exact decide_eq_true passed
      · rw [gathering]
        exact decide_eq_true passed
    exact hostAfter_congr (if_pos due)

/-! ### A frame byte by byte -/

/-- At rest, an event that leaves a state at rest with no request leads to nothing more (R178, R181). -/
theorem State.hostAfter_of_rest {s u : State} (slot : u.link.slot = none) (quiet : u.events.firstPending = none)
    (requests : u.link.requests = []) : s.hostAfter u = u :=
  State.settle_idle u _ slot quiet requests

/-- The assembler in GATHER over a link otherwise as `s` has it. -/
def State.gathering (s : State) (len : Nat) (taken : List Byte) (limit : Nat) : State :=
  { s with link := { s.link with assembler := .gather len taken s.clock limit } }

/-- From GATHER on, the bytes that complete a good frame give what its row gives (R174, R175). -/
theorem foldl_takeByte_gathering {s : State} {len limit : Nat} {m : Message} (ready : HostReady s) :
    ∀ (rest taken : List Byte), rest ≠ [] → taken.length + rest.length = len + 2 →
      gathered len (taken ++ rest) = some m →
      rest.foldl takeByte (.next (s.gathering len taken limit)) = .next (s.takeRequest m)
  | [], _, nonempty, _, _ => absurd rfl nonempty
  | [b], taken, _, length, good => by
    obtain ⟨running, -⟩ := ready
    have whole : len + 2 ≤ taken.length + 1 := by simp at length; omega
    rw [State.takeRequest_running running]
    show exec (.hostLinkByte b) (s.gathering len taken limit) = _
    rw [exec_hostLinkByte_running (s := s.gathering len taken limit) running,
      State.takeLinkByte_last (s := s.gathering len taken limit) rfl whole good]
    rfl
  | b :: c :: rest, taken, _, length, good => by
    have tail := foldl_takeByte_gathering (len := len) (limit := limit) ready (c :: rest) (taken ++ [b]) (by simp)
      (by simp at length ⊢; omega) (by simpa using good)
    obtain ⟨running, requests, -, slot, -, quiet⟩ := ready
    have within : taken.length + 1 < len + 2 := by simp at length; omega
    rw [List.foldl_cons, ← tail]
    refine congrArg (fun o => (c :: rest).foldl takeByte o) ?_
    show exec (.hostLinkByte b) (s.gathering len taken limit) = _
    rw [exec_hostLinkByte_running (s := s.gathering len taken limit) running,
      State.takeLinkByte_within (s := s.gathering len taken limit) rfl within]
    exact congrArg _ (State.hostAfter_of_rest slot quiet requests)

/-- Settles O16: the start byte, the length byte, and then the rest of the frame. -/
theorem requestRowIsItsFrameBytes : Obligations.RequestRowIsItsFrameBytes := by
  intro c m s request wellFormed ready hunting
  obtain ⟨kind, tag, body⟩ := m
  have short : body.length ≤ 248 := body_length_of_wellFormed request wellFormed
  have whole := ready
  obtain ⟨running, requests, -, slot, -, quiet⟩ := ready
  let len := body.length + 2
  have lenByte : (BitVec.ofNat 8 len : Byte).toNat = len := by
    rw [BitVec.toNat_ofNat, Nat.mod_eq_of_lt (by omega)]
  let limit := 2 ^ s.settings.linkGapExp * 1000000
  let started : State := { s with link := { s.link with assembler := .length s.clock limit } }
  let check := crc16Bytes (BitVec.ofNat 8 len :: kind :: tag :: body)
  have start : takeByte (.next s) 0xA5 = .next started := by
    show exec (.hostLinkByte 0xA5) s = _
    rw [exec_hostLinkByte_running running, State.takeLinkByte_start hunting]
    exact congrArg _ (State.hostAfter_of_rest slot quiet requests)
  have counted : takeByte (.next started) (BitVec.ofNat 8 len) = .next (s.gathering len [] limit) := by
    show exec (.hostLinkByte (BitVec.ofNat 8 len)) started = _
    rw [exec_hostLinkByte_running (s := started) running,
      State.takeLinkByte_length (s := started) rfl (by omega) (by omega), lenByte]
    exact congrArg _ (State.hostAfter_of_rest slot quiet requests)
  have rest := foldl_takeByte_gathering (limit := limit) whole (kind :: tag :: (body ++ check)) [] (by simp)
    (by simp [check, crc16Bytes_length, len]) (gathered_of_check kind tag body rfl rfl)
  rw [exec_of_requestOf request, ← rest, ← counted, ← start]
  rfl

/-! ### UNKNOWN_KIND and BAD_LENGTH -/

/-- A kind byte that is no request's is answered UNKNOWN_KIND (R180). -/
theorem runKind_unknown {kind : Byte} (unknown : isRequestKind kind = false) (body : List Byte) (s : State) :
    runKind kind body s = s.respond .unknownKind [] := by
  have outside : kind.toNat < 1 ∨ 31 < kind.toNat := by
    simp only [isRequestKind, Bool.and_eq_false_iff, decide_eq_false_iff_not] at unknown
    omega
  unfold runKind
  split <;> first | rfl | (rename_i named; rw [named] at outside; omega)

/-- A body that should be empty and is not (R180). -/
theorem runKind_nonempty {kind : Byte} {body : List Byte} (s : State)
    (named : kind ∈ ([0x01, 0x02, 0x06, 0x07, 0x08, 0x11, 0x15, 0x17, 0x18, 0x19, 0x1F] : List Byte))
    (long : body.length ≠ 0) : runKind kind body s = s.respond .badLength [] := by
  match body, long with
  | b :: rest, _ =>
    simp only [List.mem_cons, List.not_mem_nil, or_false] at named
    rcases named with rfl | rfl | rfl | rfl | rfl | rfl | rfl | rfl | rfl | rfl | rfl <;> rfl

/-- A body that should be one byte and is not (R180). -/
theorem runKind_not_one {kind : Byte} {body : List Byte} (s : State)
    (named : kind ∈ ([0x03, 0x05, 0x0A, 0x0B, 0x0D, 0x0F, 0x10, 0x14, 0x1D, 0x1E] : List Byte))
    (long : body.length ≠ 1) : runKind kind body s = s.respond .badLength [] := by
  simp only [List.mem_cons, List.not_mem_nil, or_false] at named
  match body, long with
  | [], _ => rcases named with rfl | rfl | rfl | rfl | rfl | rfl | rfl | rfl | rfl | rfl <;> rfl
  | a :: b :: rest, _ => rcases named with rfl | rfl | rfl | rfl | rfl | rfl | rfl | rfl | rfl | rfl <;> rfl

/-- A body that should be two bytes and is not (R180). -/
theorem runKind_not_two {kind : Byte} {body : List Byte} (s : State) (named : kind ∈ ([0x16, 0x1A, 0x1B] : List Byte))
    (long : body.length ≠ 2) : runKind kind body s = s.respond .badLength [] := by
  simp only [List.mem_cons, List.not_mem_nil, or_false] at named
  match body, long with
  | [], _ => rcases named with rfl | rfl | rfl <;> rfl
  | [a], _ => rcases named with rfl | rfl | rfl <;> rfl
  | a :: b :: c :: rest, _ => rcases named with rfl | rfl | rfl <;> rfl

theorem runDescRead_bad_length {body : List Byte} (s : State) (long : body.length ≠ 3) :
    runDescRead body s = s.respond .badLength [] := by
  unfold runDescRead
  split
  · exact absurd rfl long
  · rfl

theorem runSettingSet_bad_length {body : List Byte} (s : State) (long : body.length ≠ 5) :
    runSettingSet body s = s.respond .badLength [] := by
  unfold runSettingSet
  split
  · exact absurd rfl long
  · rfl

theorem runAlarmSet_bad_length {body : List Byte} (s : State) (long : body.length ≠ 6) :
    runAlarmSet body s = s.respond .badLength [] := by
  unfold runAlarmSet
  split
  · exact absurd rfl long
  · rfl

/-- DESC_WRITE whose byte count is not the one it carries (R180). -/
theorem runDescWrite_bad_length {body : List Byte} (s : State)
    (long : ∀ n, body[2]? = some n → body.length ≠ 3 + n.toNat) : runDescWrite body s = s.respond .badLength [] := by
  have read : readDescWrite body = none := by
    unfold readDescWrite
    split
    · rename_i o1 o0 n bytes
      have differs := long n rfl
      simp only [List.length_cons] at differs
      rw [if_neg (by omega)]
    · rfl
  simp only [runDescWrite, read]

/-- FILTER_INSERT whose term count is not the one it carries (R180). -/
theorem runFilterInsert_bad_length {body : List Byte} (s : State)
    (long : ∀ t, body[5]? = some t → body.length ≠ 6 + 9 * t.toNat) :
    runFilterInsert body s = s.respond .badLength [] := by
  have read : FilterForm.read body = none := by
    unfold FilterForm.read
    split
    · rename_i p l1 l0 a pr t rest
      have differs := long t rfl
      simp only [List.length_cons] at differs
      rw [Option.map_eq_none_iff, ← Option.not_isSome_iff_eq_none, readTerms_isSome_iff]
      omega
    · rfl
  simp only [runFilterInsert, read]

/-- ANSWER_SET whose term count is not the one it carries (R180). -/
theorem runAnswerSet_bad_length {body : List Byte} (s : State)
    (long : ∀ t, body[6]? = some t → body.length ≠ 7 + 9 * t.toNat) :
    runAnswerSet body s = s.respond .badLength [] := by
  have read : AnswerForm.read body = none := by
    unfold AnswerForm.read
    split
    · rename_i i c tid p1 p0 pr t rest
      have differs := long t rfl
      simp only [List.length_cons] at differs
      rw [Option.map_eq_none_iff, ← Option.not_isSome_iff_eq_none, readTerms_isSome_iff]
      omega
    · rfl
  simp only [runAnswerSet, read]

/-- TEMPLATE_SET whose body length or operation count is not the one it carries (R180). -/
theorem runTemplateSet_bad_length {body : List Byte} (s : State) (long : ∀ n ops, body[1]? = some n →
    body[2 + n.toNat]? = some ops → body.length ≠ 3 + n.toNat + 4 * ops.toNat) :
    runTemplateSet body s = s.respond .badLength [] := by
  have read : TemplateForm.read body = none := by
    unfold TemplateForm.read
    split
    · rename_i id n rest
      split
      · rename_i m opBytes dropped
        have at_n : rest[n.toNat]? = some m := by
          rw [← List.head?_drop, dropped]
          rfl
        have length : rest.length = n.toNat + (opBytes.length + 1) := by
          have total := congrArg List.length dropped
          have inside := (List.getElem?_eq_some_iff.mp at_n).1
          simp only [List.length_drop, List.length_cons] at total
          omega
        have differs := long n m rfl (by rw [Nat.add_comm]; exact at_n)
        simp only [List.length_cons] at differs
        rw [Option.map_eq_none_iff, ← Option.not_isSome_iff_eq_none, readOps_isSome_iff]
        omega
      · rfl
    · rfl
  simp only [runTemplateSet, read]

/-- The response kind of a request kind (R180). -/
theorem responseKind_of_request {kind : Byte} (low : kind.toNat < 0x80) : responseKind kind = kind + 0x80 := if_pos low

/-- Settles O21, by the kind and the length that it implies. -/
theorem requestsOfUnknownKindOrLength : Obligations.RequestsOfUnknownKindOrLength := by
  refine ⟨fun s kind tag body ready unknown => ?_, fun s c m ready request long => ?_⟩
  · exact congrArg _ (takeRequest_answers_unchanged (m := ⟨kind, tag, body⟩) ready (runKind_unknown unknown body _))
  · obtain ⟨kind, tag, body⟩ := m
    have refused : ∀ low : kind.toNat < 0x80, (∀ u : State, runKind kind body u = u.respond .badLength []) →
        exec c s = .next (s.answered (kind + 0x80) tag [9]) := by
      intro low run
      rw [exec_of_requestOf request, ← responseKind_of_request low]
      exact congrArg _ (takeRequest_answers_unchanged (m := ⟨kind, tag, body⟩) ready (run _))
    dsimp only at long
    rcases long with ⟨named, long⟩ | ⟨named, long⟩ | ⟨named, long⟩ | ⟨rfl, long⟩ | ⟨rfl, long⟩ | ⟨rfl, long⟩
      | ⟨rfl, long⟩ | ⟨rfl, long⟩ | ⟨rfl, long⟩ | ⟨rfl, long⟩
    · have low : ∀ k ∈ ([0x01, 0x02, 0x06, 0x07, 0x08, 0x11, 0x15, 0x17, 0x18, 0x19, 0x1F] : List Byte), k.toNat < 0x80 := by decide
      exact refused (low kind named) fun u => runKind_nonempty u named long
    · have low : ∀ k ∈ ([0x03, 0x05, 0x0A, 0x0B, 0x0D, 0x0F, 0x10, 0x14, 0x1D, 0x1E] : List Byte), k.toNat < 0x80 := by decide
      exact refused (low kind named) fun u => runKind_not_one u named long
    · have low : ∀ k ∈ ([0x16, 0x1A, 0x1B] : List Byte), k.toNat < 0x80 := by decide
      exact refused (low kind named) fun u => runKind_not_two u named long
    · exact refused (by decide) fun u => runDescRead_bad_length u long
    · exact refused (by decide) fun u => runSettingSet_bad_length u long
    · exact refused (by decide) fun u => runAlarmSet_bad_length u long
    · exact refused (by decide) fun u => runDescWrite_bad_length u long
    · exact refused (by decide) fun u => runFilterInsert_bad_length u long
    · exact refused (by decide) fun u => runAnswerSet_bad_length u long
    · exact refused (by decide) fun u => runTemplateSet_bad_length u long

end Sys2Proof.Machine
end

/-! What the transmit side chooses, one equation for each choice, and the head request begun behind it (R178, R181,
R183): a busy side begins the head of the queue, and a second round changes nothing. -/
section

namespace Sys2Proof.Machine

/-! ### The choice -/

theorem State.chooseFrame_of_busy {s : State} (together : Bool) (busy : s.link.tx.isSome = true) :
    s.chooseFrame together = s := by
  unfold State.chooseFrame
  rw [busy, Bool.true_or, if_pos rfl]

theorem State.chooseFrame_of_clearing {s : State} (together : Bool) (clearing : s.link.startUp = .clearing) :
    s.chooseFrame together = s := by
  unfold State.chooseFrame
  rw [clearing, beq_self_eq_true, Bool.or_true, if_pos rfl]

theorem State.chooseFrame_nothing {s : State} (together : Bool) (slot : s.link.slot = none)
    (notices : s.events.firstPending = none) : s.chooseFrame together = s := by
  unfold State.chooseFrame
  simp [slot, notices]

theorem State.chooseFrame_response {s : State} {m : Message} (side : s.link.tx = none)
    (started : s.link.startUp ≠ .clearing) (slot : s.link.slot = some m) :
    s.chooseFrame false = s.sendResponse m := by
  unfold State.chooseFrame
  cases notice : s.events.firstPending <;> simp [side, started, slot]

theorem State.chooseFrame_notice {s : State} {flag : Fin 16} (together : Bool) (side : s.link.tx = none)
    (started : s.link.startUp ≠ .clearing) (slot : s.link.slot = none) (notice : s.events.firstPending = some flag) :
    s.chooseFrame together = s.sendNotice flag := by
  unfold State.chooseFrame
  simp [side, started, slot, notice]

theorem Events.firstPending_eq_some {e : Events} {flag : Fin 16} {rise : Time} (pending : e.notices[flag] = some rise)
    (lower : ∀ k : Fin 16, k < flag → e.notices[k] = none) : e.firstPending = some flag := by
  unfold Events.firstPending
  rw [List.find?_eq_some_iff_getElem]
  refine ⟨by simp [pending], flag.val, by simp, by simp, fun j below => ?_⟩
  have absent := lower ⟨j, Nat.lt_trans below flag.isLt⟩ below
  simpa [Fin.getElem_fin] using absent

theorem State.sendNotice_of_pending {s : State} {flag : Fin 16} {rise : Time}
    (pending : s.events.notices[flag] = some rise) : s.sendNotice flag =
      ({ s with events := { s.events with notices := s.events.notices.set flag none } } : State).send
        (eventNotice flag rise) := by
  unfold State.sendNotice
  rw [pending]

/-! ### The head request begun -/

/-- The head request `r` begun at `s` (R178). -/
def State.begun (s : State) (r : Message) : State :=
  runKind r.kind r.body { s with link := { s.link with executing := true } }

theorem State.execute_eq_begun {s : State} {r : Message} {rest : List Message} (requests : s.link.requests = r :: rest) :
    s.execute = s.begun r := by
  unfold State.execute
  rw [requests]
  rfl

theorem State.canExecute_eq_false {s : State}
    (waits : s.link.executing = true ∨ s.link.requests = [] ∨ s.link.slot.isSome = true) : s.canExecute = false := by
  unfold State.canExecute
  rcases waits with h | h | h
  · simp [h]
  · simp [h]
  · cases slot : s.link.slot <;> simp_all

theorem State.canExecute_of_head {s : State} {r : Message} {rest : List Message} (idle : s.link.executing = false)
    (slot : s.link.slot = none) (requests : s.link.requests = r :: rest) : s.canExecute = true := by
  unfold State.canExecute
  rw [idle, slot, requests]
  rfl

theorem State.serve_of_waiting {s : State} (waits : s.canExecute = false) : s.serve = s := by
  unfold State.serve
  rw [waits, if_neg Bool.false_ne_true]

theorem State.begun_linkOccupied {s : State} {r : Message} {rest : List Message} (busy : s.link.tx.isSome = true)
    (requests : s.link.requests = r :: rest) : (s.begun r).linkOccupied :=
  runKind_linkOccupied _ _ _ (by simp [requests]) ⟨busy, .inl rfl⟩

theorem State.linkOccupied.serve {s : State} (occupied : s.linkOccupied) : s.serve = s :=
  serve_of_waiting (canExecute_eq_false (occupied.2.imp_right .inr))

/-- A busy side begins the head request, and whatever it does fills the link (R178, R181). -/
theorem State.serve_of_busy {s : State} {r : Message} {rest : List Message} (busy : s.link.tx.isSome = true)
    (idle : s.link.executing = false) (slot : s.link.slot = none) (requests : s.link.requests = r :: rest) :
    s.serve = s.begun r := by
  unfold State.serve
  rw [canExecute_of_head idle slot requests, if_pos rfl, execute_eq_begun requests]
  exact chooseFrame_of_busy false (begun_linkOccupied busy requests).1

/-- The end of an event whose choice leaves a frame on HL_TXD, with the requests waiting on (R178). -/
theorem State.settle_of_choice_waiting {s v : State} {together : Bool} (choice : s.chooseFrame together = v)
    (waits : v.link.executing = true ∨ v.link.requests = [] ∨ v.link.slot.isSome = true) : s.settle together = v := by
  have served : v.serve = v := serve_of_waiting (canExecute_eq_false waits)
  rw [State.settle, choice, served, served]

/-- The end of an event whose choice leaves a frame on HL_TXD, with the head request begun behind it (R178). -/
theorem State.settle_of_choice_begins {s v : State} {together : Bool} {r : Message} {rest : List Message}
    (choice : s.chooseFrame together = v) (busy : v.link.tx.isSome = true) (idle : v.link.executing = false)
    (slot : v.link.slot = none) (requests : v.link.requests = r :: rest) : s.settle together = v.begun r := by
  rw [State.settle, choice, serve_of_busy busy idle slot requests, (begun_linkOccupied busy requests).serve]

/-! ### A request begun on a free side -/

/-- A request has been taken up: it executes, or its response stands in the slot (R178). -/
def State.requestPlaced (s : State) : Prop := s.link.executing = true ∨ s.link.slot.isSome = true

theorem State.requestPlaced_of_link {s t : State} (same : t.link = s.link) (h : s.requestPlaced) : t.requestPlaced := by
  unfold State.requestPlaced at *
  rwa [same]

theorem State.respond_requestPlaced (s : State) (st : Status) (fields : List Byte) (h : s.requestPlaced) :
    (s.respond st fields).requestPlaced := by
  unfold State.respond
  split
  · exact h
  · exact .inr rfl

theorem State.switchToPart_requestPlaced (s : State) (forced : Bool) (h : s.requestPlaced) :
    (s.switchToPart forced).requestPlaced :=
  respond_requestPlaced _ _ _ (requestPlaced_of_link (s := s) (by simp) h)

/-- Any request begun is placed: it executes on, or its response stands in the slot (R178). -/
theorem runKind_requestPlaced (s : State) (kind : Byte) (body : List Byte) (requests : s.link.requests ≠ [])
    (h : s.requestPlaced) : (runKind kind body s).requestPlaced := by
  refine KeptByRequests.run (P := State.requestPlaced) ?_ s kind body requests h
  constructor
  case respond => exact State.respond_requestPlaced
  case beginHandover =>
    intro s _ h
    unfold State.testWait
    split
    · exact State.switchToPart_requestPlaced _ _ (State.requestPlaced_of_link (s := s) rfl h)
    · exact State.requestPlaced_of_link (s := s) rfl h
  case beginLeaving =>
    intro s _ _ h
    unfold State.beginLeaving
    dsimp only
    split
    · exact State.requestPlaced_of_link (s := s) (by simp) h
    · exact State.respond_requestPlaced _ _ _ (State.requestPlaced_of_link (s := s) (by simp) h)
  all_goals
    intros
    refine State.requestPlaced_of_link ?_ (by assumption)
    first | rfl | simp

theorem State.execute_linkOccupied {s : State} (busy : s.link.tx.isSome = true) (can : s.canExecute = true) :
    s.execute.linkOccupied := by
  cases requests : s.link.requests with
  | nil => simp [State.canExecute, requests] at can
  | cons r rest =>
    rw [execute_eq_begun requests]
    exact begun_linkOccupied busy requests

/-- Behind a busy side a second round changes nothing (R178). -/
theorem State.serve_serve_of_busy {s : State} (busy : s.link.tx.isSome = true) : s.serve.serve = s.serve := by
  cases can : s.canExecute with
  | false => rw [serve_of_waiting can, serve_of_waiting can]
  | true =>
    have occupied := execute_linkOccupied busy can
    have served : s.serve = s.execute := by
      unfold State.serve
      rw [can, if_pos rfl]
      exact chooseFrame_of_busy false occupied.1
    rw [served, occupied.serve]

/-- With a request placed, the choice either sends nothing, and nothing is begun, or leaves the side busy. -/
theorem State.requestPlaced.choice {s : State} (placed : s.requestPlaced) :
    (s.chooseFrame false).canExecute = false ∨ (s.chooseFrame false).link.tx.isSome = true := by
  have waits : s.canExecute = false := canExecute_eq_false (placed.imp_right .inr)
  cases side : s.link.tx with
  | some o => exact .inr (by rw [chooseFrame_of_busy false (by rw [side]; rfl), side]; rfl)
  | none =>
    by_cases clearing : s.link.startUp = .clearing
    · exact .inl (by rw [chooseFrame_of_clearing false clearing]; exact waits)
    · cases slot : s.link.slot with
      | some m => exact .inr (by rw [chooseFrame_response side clearing slot]; rfl)
      | none =>
        cases notice : s.events.firstPending with
        | none => exact .inl (by rw [chooseFrame_nothing false slot notice]; exact waits)
        | some flag =>
          rw [chooseFrame_notice false side clearing slot notice]
          unfold State.sendNotice
          split
          · exact .inl waits
          · exact .inr rfl

theorem State.requestPlaced.serve_serve {s : State} (placed : s.requestPlaced) :
    (s.chooseFrame false).serve.serve = (s.chooseFrame false).serve := by
  rcases placed.choice with waits | busy
  · rw [serve_of_waiting waits, serve_of_waiting waits]
  · exact serve_serve_of_busy busy

/-- The end of an event that leaves the side free with nothing to send: the head request begins, and the choice
follows what it leaves (R178, R181). -/
theorem State.settle_begins_free {s : State} {r : Message} {rest : List Message} (together : Bool)
    (idle : s.link.executing = false) (slot : s.link.slot = none) (notices : s.events.firstPending = none)
    (requests : s.link.requests = r :: rest) : s.settle together = (s.begun r).settle false := by
  have placed : (s.begun r).requestPlaced := runKind_requestPlaced _ _ _ (by simp [requests]) (.inl rfl)
  have served : s.serve = (s.begun r).chooseFrame false := by
    unfold State.serve
    rw [canExecute_of_head idle slot requests, if_pos rfl, execute_eq_begun requests]
  rw [State.settle, State.settle, chooseFrame_nothing together slot notices, served, placed.serve_serve]

/-! ### The obligation -/

theorem exec_hostLinkFrameSent (s : State) : exec .hostLinkFrameSent s = .next (s.frameSent.settle false) := rfl

/-- The frame on HL_TXD ends after STARTED has been composed: bytes are taken from now on (R181, R192). -/
theorem State.frameSent_of_started {s : State} {o : Outgoing} (sending : s.link.tx = some o)
    (started : s.link.startUp ≠ .clearing) :
    s.frameSent = { s with link := { s.link with tx := none, startUp := .running } } := by
  unfold State.frameSent
  rw [sending]
  cases startUp : s.link.startUp with
  | clearing => exact absurd startUp started
  | started => rfl
  | running => rfl

theorem lineNs_fast (n : Nat) : 1000000 * lineNs true n = 10 * n * 1000000000 := by
  rw [lineNs, if_pos rfl]
  omega

theorem lineNs_slow (n : Nat) : 10 * n * 1000000000 ≤ 115200 * lineNs false n
    ∧ 115200 * lineNs false n < 10 * n * 1000000000 + 115200 := by
  rw [lineNs, if_neg Bool.false_ne_true]
  omega

theorem begun_eventsGet {s : State} {r : Message} (requests : s.link.requests = [r]) (kind : r.kind = 0x19)
    (body : r.body = []) : s.begun r = { s with link := { s.link with
      requests := []
      executing := false
      slot := some ⟨0x99, r.tag, 0 :: (bytesBE 2 s.events.flags.toNat ++ bytesBE 2 s.events.mask.toNat
        ++ bytesBE 2 s.events.pendingSet.toNat)⟩ } } := by
  unfold State.begun
  rw [kind, body]
  refine (State.respond_of_requests (s := { s with link := { s.link with executing := true } }) requests _ _).trans ?_
  rw [kind]
  rfl

/-- Settles O20, by the choice of the transmit side and the head request begun behind it. -/
theorem freeSideSendsAndNextExecutes : Obligations.FreeSideSendsAndNextExecutes := by
  refine ⟨fun s o sending started => ⟨?response, ?notice, ?nothing⟩, ?eventsGet, fun n => ⟨lineNs_fast n, lineNs_slow n⟩,
    fun u m => rfl, fun s u => ⟨?busy, ?free⟩⟩
  case response =>
    intro m slot
    let free : State := { s with link := { s.link with tx := none, startUp := .running } }
    have choice : free.chooseFrame false = free.sendResponse m :=
      State.chooseFrame_response rfl (by simp [free]) slot
    rw [exec_hostLinkFrameSent, State.frameSent_of_started sending started]
    refine ⟨fun waits => congrArg _ (State.settle_of_choice_waiting choice ?_), fun r rest idle requests =>
      congrArg _ (State.settle_of_choice_begins choice rfl idle rfl requests)⟩
    exact waits.imp_right .inl
  case notice =>
    intro flag rise slot pending lower
    let free : State := { s with link := { s.link with tx := none, startUp := .running } }
    have choice : free.chooseFrame false = _ :=
      (State.chooseFrame_notice (s := free) false rfl (by simp [free]) slot
        (Events.firstPending_eq_some pending lower)).trans (State.sendNotice_of_pending (s := free) pending)
    rw [exec_hostLinkFrameSent, State.frameSent_of_started sending started]
    refine ⟨fun waits => congrArg _ (State.settle_of_choice_waiting choice ?_), fun r rest idle requests =>
      congrArg _ (State.settle_of_choice_begins choice rfl idle slot requests)⟩
    exact waits.imp_right .inl
  case nothing =>
    intro slot absent
    have notices : s.events.firstPending = none := (Events.firstPending_eq_none_iff _).mpr absent
    rw [exec_hostLinkFrameSent, State.frameSent_of_started sending started]
    refine ⟨fun waits => congrArg _ (State.settle_of_choice_waiting (State.chooseFrame_nothing false slot notices) ?_),
      fun r rest idle requests => ?_⟩
    · exact waits.imp_right .inl
    · have begins := State.settle_begins_free
        (s := { s with link := { s.link with tx := none, startUp := .running } }) false idle slot notices requests
      rw [begins, State.hostAfter, sending]
      rfl
  case eventsGet =>
    intro s o m r sending running slot idle requests kind body
    let free : State := { s with link := { s.link with tx := none, startUp := .running } }
    have started : s.link.startUp ≠ .clearing := by simp [running]
    have choice : free.chooseFrame false = free.sendResponse m :=
      State.chooseFrame_response rfl (by simp [free]) slot
    rw [exec_hostLinkFrameSent, State.frameSent_of_started sending started,
      State.settle_of_choice_begins choice rfl idle rfl requests, begun_eventsGet (s := free.sendResponse m) requests kind body]
    simp only [State.sendResponse, State.send, free, running, idle]
  case busy =>
    intro sending
    exact ⟨State.settle_of_choice_waiting (State.chooseFrame_of_busy _ sending), fun r rest idle slot requests =>
      State.settle_of_choice_begins (State.chooseFrame_of_busy _ sending) sending idle slot requests⟩
  case free =>
    intro flag rise side started slot pending lower
    have choice : u.chooseFrame s.link.tx.isNone = _ :=
      (State.chooseFrame_notice _ side started slot (Events.firstPending_eq_some pending lower)).trans
        (State.sendNotice_of_pending pending)
    refine ⟨fun waits => State.settle_of_choice_waiting choice ?_, fun r rest idle requests =>
      State.settle_of_choice_begins choice rfl idle slot requests⟩
    exact waits.imp_right .inl

end Sys2Proof.Machine
end

/-! The announcements at the end of a supply-switch reset: whatever the order a free value picks, each is taken once
(R22, R101, R172), and what they leave in PRC, in the wake log and in the event flags. -/
section

namespace Sys2Proof.Machine

/-! ### The order of the announcements -/

/-- What each announcement carries over from those before it, all of them leave, taken in some order (log 21). -/
theorem State.announceAll_in_order {P : List ResetEndEvent → State → Prop}
    (announce : ∀ done s e, P done s → P (done ++ [e]) (s.announce e))
    (free : ∀ done s n, P done s → P done { s with free := n }) :
    ∀ (n : Nat) (s : State) (done l : List ResetEndEvent), l.length ≤ n → P done s →
      ∃ order, order.Perm l ∧ P (done ++ order) (s.announceAll n l)
  | 0, s, done, [], _, h => ⟨[], .refl _, by simpa [State.announceAll] using h⟩
  | n + 1, s, done, [], _, h => ⟨[], .refl _, by simpa [State.announceAll] using h⟩
  | n + 1, s, done, [e], _, h => ⟨[e], .refl _, announce done s e h⟩
  | n + 1, s, done, e :: f :: rest, enough, h => by
    let events := e :: f :: rest
    let k := s.drawFree.1 % events.length
    have inside : k < events.length := Nat.mod_lt _ (Nat.succ_pos _)
    have picked : events.getD k e = events[k] := (List.getD_eq_getElem events e inside)
    have shorter : (events.eraseIdx k).length ≤ n := by
      rw [List.length_eraseIdx_of_lt inside]
      exact Nat.pred_le_pred enough
    obtain ⟨order, perm, left⟩ := announceAll_in_order announce free n (s.drawFree.2.announce (events.getD k e))
      (done ++ [events.getD k e]) (events.eraseIdx k) shorter (announce _ _ _ (free _ _ _ h))
    refine ⟨events.getD k e :: order, ?_, ?_⟩
    · rw [picked]
      exact (perm.cons _).trans (List.getElem_cons_eraseIdx_perm inside)
    · rw [List.append_assoc] at left
      exact left

/-! ### The event flags after some raises -/

/-- The event flags after the flags of a list are raised at one time. -/
def Events.raised (e : Events) (now : Time) (flags : List EventFlag) : Events := flags.foldl (fun e f => e.raise f now) e

theorem Events.raised_append (e : Events) (now : Time) (flags : List EventFlag) (f : EventFlag) :
    e.raised now (flags ++ [f]) = (e.raised now flags).raise f now := by simp [Events.raised]

theorem Events.raised_mask (e : Events) (now : Time) (flags : List EventFlag) : (e.raised now flags).mask = e.mask := by
  induction flags generalizing e with
  | nil => rfl
  | cons f rest ih => exact (ih (e.raise f now)).trans (e.raise_mask f now)

theorem Events.raised_flags (e : Events) (now : Time) (flags : List EventFlag) (g : Fin 16) :
    (e.raised now flags).flags.getLsbD g = true ↔ e.flags.getLsbD g = true ∨ ∃ f ∈ flags, f.number = g := by
  induction flags generalizing e with
  | nil => simp [Events.raised]
  | cons f rest ih =>
    refine (ih (e.raise f now)).trans ?_
    rw [Events.raise_flags, Bool.or_eq_true, decide_eq_true_eq, List.exists_mem_cons_iff, or_assoc, eq_comm (a := g)]

/-- A notice is pending of each flag that rose with its mask bit set (R182). -/
theorem Events.raised_notices (e : Events) (now : Time) (flags : List EventFlag) (g : Fin 16) :
    (e.raised now flags).notices[g] =
      if (e.raised now flags).flags.getLsbD g && !e.flags.getLsbD g && e.mask.getLsbD g then some now
      else e.notices[g] := by
  induction flags generalizing e with
  | nil => simp [Events.raised]
  | cons f rest ih =>
    have after := ih (e.raise f now)
    have set : ((e.raise f now).raised now rest).flags.getLsbD g = true ↔ _ := Events.raised_flags _ _ _ _
    rw [Events.raise_flags, Events.raise_mask, Events.raise_notices] at after
    rw [Events.raise_flags] at set
    refine after.trans ?_
    show _ = if ((e.raise f now).raised now rest).flags.getLsbD g && _ && _ then _ else _
    by_cases same : g = f.number
    · subst same
      cases flag : e.flags.getLsbD f.number <;> cases mask : e.mask.getLsbD f.number <;> simp_all
    · simp [same]

/-! ### What an announcement leaves -/

/-- The wake cause of an announcement, with its detail (R22, R172). -/
def ResetEndEvent.cause : ResetEndEvent → WakeCause × Option Half
  | .supplySwitch => (.supplySwitch, none)
  | .expiry n => (.alarm, some (BitVec.ofNat 16 n.val))

/-- The flag an announcement raises of itself (R166). -/
def ResetEndEvent.flag : ResetEndEvent → Option EventFlag
  | .supplySwitch => none
  | .expiry n => some (.alarm n)

/-- PRC after one wake cause taken in PROXY (R9). -/
def State.wakingPrc (s : State) : Prc :=
  { s.prc with
    presence := .waking, escalations := 0
    wakeAckTimer := some (s.clock + s.settings.wakeAckTimeoutMs * 1000000) }

theorem coalescedInto_length (l : List WakeRecord) : (coalescedInto l).length = l.length := by
  unfold coalescedInto
  cases last : l.getLast? with
  | none => rw [List.getLast?_eq_none_iff.mp last]
  | some r =>
    have nonempty : l ≠ [] := by
      rintro rfl
      simp at last
    have := List.length_pos_iff.mpr nonempty
    simp
    omega

/-- A cause without a frame in a proxy state: one more record, or LOG_FULL raised with as many as before (R97, R99). -/
theorem State.takeCause_adds_or_coalesces {s : State} {o : Offer} (allowed : s.causeAllowed o = true)
    (plain : o.frame = none) (proxy : s.prc.presence.isProxy = true) :
    ((s.takeCause o).wlog.records.length = s.wlog.records.length + 1 ∧ (s.takeCause o).events = s.events)
    ∨ ((s.takeCause o).wlog.records.length = s.wlog.records.length
      ∧ (s.takeCause o).events = s.events.raise .logFull s.time) := by
  have taken := s.takeCause_wlog o allowed plain proxy
  rw [taken]
  unfold State.takeCause Wlog.withCause
  rw [if_pos (by simp [allowed, proxy])]
  cases next : s.wlog.nextSeq with
  | none => exact .inr ⟨coalescedInto_length _, by simp [State.reportWake_eq, State.coalesce]⟩
  | some q =>
    by_cases room : s.wlog.records.length < 8
    · have room' : s.wlog.records.length < Config.logCapacity := room
      exact .inl ⟨by simp [room], by simp [room', State.reportWake_eq, State.addRecord, plain]⟩
    · have full : ¬ s.wlog.records.length < Config.logCapacity := room
      exact .inr ⟨by simp [room, coalescedInto_length], by simp [full, State.reportWake_eq, State.coalesce]⟩

theorem State.takeCause_dropped {s : State} {o : Offer} (outside : s.prc.presence.isProxy = false) :
    s.takeCause o = s := by
  unfold State.takeCause
  simp [outside]

/-- What the announcements taken so far have left of `s`, in PRC, the wake log and the event flags (R9, R22, R99,
R166, R172). -/
structure State.Announced (s : State) (done : List ResetEndEvent) (u : State) : Prop where
  time : u.time = s.time
  clock : u.clock = s.clock
  settings : u.settings = s.settings
  prc : u.prc = if s.prc.presence = .proxy ∧ done ≠ [] then s.wakingPrc else s.prc
  wlog : u.wlog = if s.prc.presence.isProxy then (done.map ResetEndEvent.cause).foldl (Wlog.withCause s.time) s.wlog
    else s.wlog
  bound : u.wlog.records.length ≤ s.wlog.records.length + done.length
  events : ∃ flags, u.events = s.events.raised s.time flags ∧ ∀ f, f ∈ flags ↔
    (∃ e ∈ done, e.flag = some f)
      ∨ (f = .logFull ∧ s.prc.presence.isProxy = true ∧ u.wlog.records.length < s.wlog.records.length + done.length)

theorem State.Announced.nothing (s : State) : s.Announced [] s where
  time := rfl
  clock := rfl
  settings := rfl
  prc := by simp
  wlog := by simp
  bound := Nat.le_refl _
  events := ⟨[], rfl, by simp⟩

theorem State.Announced.proxy_iff {s u : State} {done : List ResetEndEvent} (h : s.Announced done u) :
    u.prc.presence.isProxy = s.prc.presence.isProxy := by
  rw [h.prc]
  split
  · rename_i waking
    rw [waking.1]
    rfl
  · rfl

/-- PRC after one more cause: PROXY is left at the first. -/
theorem State.Announced.prc_next {s u : State} {done : List ResetEndEvent} (h : s.Announced done u) (e : ResetEndEvent) :
    (if u.prc.presence = .proxy then u.wakingPrc else u.prc) =
      if s.prc.presence = .proxy ∧ done ++ [e] ≠ [] then s.wakingPrc else s.prc := by
  by_cases proxy : s.prc.presence = .proxy
  · by_cases first : done = []
    · simp [State.wakingPrc, h.prc, h.clock, h.settings, proxy, first]
    · simp [State.wakingPrc, h.prc, proxy, first]
  · simp [h.prc, proxy]

/-- One more announcement: its own flag is raised, if it has one, then its cause is taken. -/
theorem State.Announced.takes {s u v : State} {done : List ResetEndEvent} {e : ResetEndEvent} {o : Offer}
    (h : s.Announced done u) (same : v = { u with events := u.events.raised u.time e.flag.toList })
    (allowed : v.causeAllowed o = true) (plain : o.frame = none) (cause : (o.cause, o.detail) = e.cause) :
    s.Announced (done ++ [e]) (v.takeCause o) := by
  obtain ⟨flags, events, raised⟩ := h.events
  have vTime : v.time = s.time := by rw [same]; exact h.time
  have vWlog : v.wlog = u.wlog := by rw [same]
  have vPrc : v.prc = u.prc := by rw [same]
  have vEvents : v.events = s.events.raised s.time (flags ++ e.flag.toList) := by
    rw [same]
    show u.events.raised u.time e.flag.toList = _
    rw [events, h.time]
    simp [Events.raised]
  have proxyEq : v.prc.presence.isProxy = s.prc.presence.isProxy := by rw [vPrc, h.proxy_iff]
  have own : ∀ f, f ∈ flags ++ e.flag.toList ↔ (∃ d ∈ done ++ [e], d.flag = some f)
      ∨ (f = .logFull ∧ s.prc.presence.isProxy = true
        ∧ u.wlog.records.length < s.wlog.records.length + done.length) := by
    intro f
    simp only [List.mem_append, raised f, Option.mem_toList, List.mem_singleton, or_and_right, exists_or, exists_eq_left]
    exact or_right_comm
  have prc : (v.takeCause o).prc = if s.prc.presence = .proxy ∧ done ++ [e] ≠ [] then s.wakingPrc else s.prc := by
    rw [← h.prc_next e, State.takeCause_prc, allowed, same]
    simp [State.wakingPrc]
  cases proxy : s.prc.presence.isProxy with
  | false =>
    rw [State.takeCause_dropped (proxyEq.trans proxy)] at prc ⊢
    refine ⟨vTime, by rw [same]; exact h.clock, by rw [same]; exact h.settings, prc, ?_, ?_, ?_⟩
    · rw [vWlog, h.wlog, proxy]
      simp
    · rw [vWlog, List.length_append]
      exact Nat.le_trans h.bound (by omega)
    · refine ⟨_, vEvents, fun f => ?_⟩
      rw [own f, proxy]
      simp
  | true =>
    have taken := v.takeCause_wlog o allowed plain (proxyEq.trans proxy)
    have bound := h.bound
    refine ⟨by simp [vTime], by simp [same, h.clock], by simp [same, h.settings], prc, ?_, ?_, ?_⟩
    · rw [taken, vWlog, vTime, h.wlog, cause, proxy]
      simp
    · rcases State.takeCause_adds_or_coalesces allowed plain (proxyEq.trans proxy) with ⟨length, -⟩ | ⟨length, -⟩
      · rw [length, vWlog, List.length_append, List.length_singleton]
        omega
      · rw [length, vWlog, List.length_append, List.length_singleton]
        omega
    · rcases State.takeCause_adds_or_coalesces allowed plain (proxyEq.trans proxy) with
        ⟨length, after⟩ | ⟨length, after⟩
      · refine ⟨_, after.trans vEvents, fun f => ?_⟩
        rw [own f, length, vWlog, List.length_append, List.length_singleton, proxy, ← Nat.add_assoc,
          Nat.add_lt_add_iff_right]
      · refine ⟨flags ++ e.flag.toList ++ [.logFull], ?_, fun f => ?_⟩
        · rw [after, vEvents, vTime, Events.raised_append]
        · rw [List.mem_append, own f, length, vWlog, List.length_append, List.length_singleton, List.mem_singleton, proxy]
          constructor
          · rintro ((raisedBefore | ⟨full, -, -⟩) | full)
            · exact .inl raisedBefore
            · exact .inr ⟨full, rfl, by omega⟩
            · exact .inr ⟨full, rfl, by omega⟩
          · rintro (raisedBefore | ⟨full, -, -⟩)
            · exact .inl (.inl raisedBefore)
            · exact .inr full

theorem State.Announced.announce {s u : State} {done : List ResetEndEvent} (h : s.Announced done u)
    (e : ResetEndEvent) : s.Announced (done ++ [e]) (u.announce e) := by
  cases e with
  | supplySwitch => exact h.takes (v := u) rfl rfl rfl rfl
  | expiry n => exact h.takes (v := u.raise (.alarm n)) rfl rfl rfl rfl

theorem State.Announced.free {s u : State} {done : List ResetEndEvent} (h : s.Announced done u) (n : Nat) :
    s.Announced done { u with free := n } :=
  ⟨h.time, h.clock, h.settings, h.prc, h.wlog, h.bound, h.events⟩

/-- All the announcements at the end of a supply-switch reset are taken, each once, in some order (R22, R172). -/
theorem State.announceAll_announced (s : State) (events : List ResetEndEvent) :
    ∃ order, order.Perm events ∧ s.Announced order (s.announceAll events.length events) := by
  obtain ⟨order, perm, left⟩ := State.announceAll_in_order (P := s.Announced) (fun _ _ e h => h.announce e)
    (fun _ _ n h => h.free n) events.length s [] events (Nat.le_refl _) (.nothing s)
  exact ⟨order, perm, left⟩

end Sys2Proof.Machine
end

/-! O9 and O10: what a supply-switch reset keeps, what it settles, and the wake causes at its end (R21, R22, R172). -/
section

namespace Sys2Proof.Machine

/-! ### The blocks settled -/

/-- The state in which every block is settled and STARTED goes out, before the announcements (R21, R193). -/
def State.settledAt (s : State) (us : Nat) (fast : Bool) : State :=
  ((s.elapse us).settleBlocks s.time us fast).sendStarted 1

theorem State.settledAt_prc (s : State) (us : Nat) (fast : Bool) :
    (s.settledAt us fast).prc =
      { presence := s.prc.presence.afterSupplySwitch
        handoverDeadline := none
        wakeAckTimer := if s.prc.presence.afterSupplySwitch = .waking then
          some (s.clock + us * 1000 + s.settings.wakeAckTimeoutMs * 1000000) else none
        escalations := 0
        pulseEnd := none
        pendingResponse := .none } := rfl

theorem State.settledAt_wlog (s : State) (us : Nat) (fast : Bool) : (s.settledAt us fast).wlog = s.wlog.kept := rfl

theorem State.settledAt_events (s : State) (us : Nat) (fast : Bool) :
    (s.settledAt us fast).events = { s.events with notices := Vector.replicate 16 none } := rfl

theorem Presence.afterSupplySwitch_isProxy (p : Presence) : p.afterSupplySwitch.isProxy = p.isProxy := by
  cases p <;> rfl

/-- The announcements at the end of a supply-switch reset, in the order they are taken (R22, R101, R172). -/
theorem State.supplySwitchReset_announced (s : State) (us : Nat) (fast : Bool) :
    ∃ order, order.Perm (s.resetEndEvents s.time us)
      ∧ (s.settledAt us fast).Announced order (s.supplySwitchReset us fast) :=
  State.announceAll_announced (s.settledAt us fast) (s.resetEndEvents s.time us)

theorem State.resetEndEvents_causes (s : State) (us : Nat) :
    (s.resetEndEvents s.time us).map ResetEndEvent.cause = s.resetCauses us := by
  unfold State.resetEndEvents State.resetCauses
  rw [List.map_append, List.map_map]
  congr 1
  split <;> rfl

theorem State.expiry_mem_resetEndEvents {s : State} {us : Nat} {n : Fin 4} :
    .expiry n ∈ s.resetEndEvents s.time us ↔ s.alarms[n].expiresWithin s.time us = true := by
  unfold State.resetEndEvents
  rw [List.mem_append, List.mem_map]
  constructor
  · rintro (own | ⟨m, listed, same⟩)
    · split at own <;> simp at own
    · cases same
      exact (List.mem_filter.mp listed).2
  · exact fun expires => .inr ⟨n, List.mem_filter.mpr ⟨List.mem_finRange n, expires⟩, rfl⟩

/-- The log at the end of a supply-switch reset (R22, R106, R172). -/
theorem State.supplySwitchReset_wlog (s : State) (us : Nat) (fast : Bool) :
    (s.prc.presence.isProxy = false → (s.supplySwitchReset us fast).wlog = s.wlog.kept)
    ∧ (s.prc.presence.isProxy = true → ∃ order : List (WakeCause × Option Half), order.Perm (s.resetCauses us) ∧
        (s.supplySwitchReset us fast).wlog =
          order.foldl (Wlog.withCause (s.supplySwitchReset us fast).time) s.wlog.kept) := by
  obtain ⟨order, perm, taken⟩ := s.supplySwitchReset_announced us fast
  have wlog := taken.wlog
  rw [State.settledAt_wlog, State.settledAt_prc, Presence.afterSupplySwitch_isProxy, ← taken.time] at wlog
  refine ⟨fun outside => ?_, fun proxy => ⟨order.map ResetEndEvent.cause, ?_, ?_⟩⟩
  · rw [wlog, outside]
    rfl
  · rw [← s.resetEndEvents_causes us]
    exact perm.map _
  · rw [wlog, proxy, if_pos rfl]

/-! ### The alarm timers across the reset -/

theorem Alarm.across_of_still {a : Alarm} (still : a.state = .idle ∨ a.state = .spent) (t : Time) (us : Nat) :
    a.acrossReset t us = a ∧ a.expiresWithin t us = false := by
  unfold Alarm.acrossReset Alarm.expiresWithin
  rcases still with h | h <;> rw [h] <;> exact ⟨rfl, rfl⟩

/-- A timer whose ticks in the reset leave some over (R165, R172). -/
theorem Alarm.across_of_left {a : Alarm} {r : Nat} {t : Time} {us : Nat} (running : a.state = .running r)
    (left : a.ticksWithin t us < r) :
    a.acrossReset t us = { a with
        state := .running (r - a.ticksWithin t us)
        nextTick := a.nextTick + BitVec.ofNat 48 (a.ticksWithin t us * 1000) }
      ∧ a.expiresWithin t us = false := by
  unfold Alarm.acrossReset Alarm.expiresWithin
  rw [running]
  dsimp only
  rw [if_pos left]
  exact ⟨rfl, decide_eq_false (Nat.not_le.mpr left)⟩

/-- A timer whose ticks in the reset take it to 0 (R166, R172). -/
theorem Alarm.across_of_expiry {a : Alarm} {r : Nat} {t : Time} {us : Nat} (running : a.state = .running r)
    (expired : r ≤ a.ticksWithin t us) :
    a.acrossReset t us = { a with
        state := if a.periodic then .running (a.initial.toNat - (a.ticksWithin t us - r) % a.initial.toNat) else .spent
        nextTick := a.nextTick + BitVec.ofNat 48 (a.ticksWithin t us * 1000)
        expiries := if a.expiries < 65535 then a.expiries + 1 else 65535 }
      ∧ a.expiresWithin t us = true := by
  unfold Alarm.acrossReset Alarm.expiresWithin
  rw [running]
  dsimp only
  rw [if_neg (Nat.not_lt.mpr expired)]
  exact ⟨rfl, decide_eq_true expired⟩

/-! ### The retention domain -/

theorem State.supplySwitchReset_mask (s : State) (us : Nat) (fast : Bool) :
    (s.supplySwitchReset us fast).events.mask = s.events.mask := by
  obtain ⟨order, -, taken⟩ := s.supplySwitchReset_announced us fast
  obtain ⟨flags, events, -⟩ := taken.events
  rw [events, Events.raised_mask, State.settledAt_events]

/-- No flag is cleared by the reset (R186). -/
theorem State.supplySwitchReset_flags_kept (s : State) (us : Nat) (fast : Bool) :
    s.events.flags &&& (s.supplySwitchReset us fast).events.flags = s.events.flags := by
  obtain ⟨order, -, taken⟩ := s.supplySwitchReset_announced us fast
  obtain ⟨flags, events, -⟩ := taken.events
  refine BitVec.eq_of_getLsbD_eq fun i inside => ?_
  have set := Events.raised_flags (s.settledAt us fast).events (s.settledAt us fast).time flags ⟨i, inside⟩
  rw [← events, State.settledAt_events] at set
  rw [BitVec.getLsbD_and]
  cases flag : s.events.flags.getLsbD i with
  | false => rfl
  | true => rw [set.mpr (.inl flag), Bool.and_self]

/-- Settles O9, by the blocks as they are settled and the announcements taken in order. -/
theorem supplySwitchKeepsRetentionDomain : Obligations.SupplySwitchKeepsRetentionDomain := by
  intro s us fast
  obtain ⟨time, -, rxp, pool, txq, slots, desc, lmon, shed, alarms, link⟩ := s.supplySwitchReset_settles us fast
  obtain ⟨-, -, answers, templates, settings, factory, -⟩ := s.supplySwitchReset_keeps us fast
  refine ⟨s.supplySwitchReset us fast, rfl, time, ⟨by simp, answers, templates, settings, factory, by simp,
    s.supplySwitchReset_mask us fast, s.supplySwitchReset_flags_kept us fast, by rw [lmon]; rfl⟩, ?timers,
    s.supplySwitchReset_wlog us fast, ⟨rxp, ?_, by rw [txq]; rfl, by rw [txq]; rfl, ?_⟩, ?linkMonitor, ?shedding,
    ?descriptor, ?hostLink⟩
  case timers =>
    intro n
    have timer : (s.supplySwitchReset us fast).alarms[n] = s.alarms[n].acrossReset s.time us := by
      rw [alarms]
      simp
    rw [timer]
    refine ⟨fun still => Alarm.across_of_still still _ _, fun r running => ⟨fun left => ?_, fun expired => ?_⟩⟩
    · exact Alarm.across_of_left running left
    · exact Alarm.across_of_expiry running expired
  case linkMonitor =>
    rw [lmon, time]
    exact ⟨rfl, rfl, rfl, rfl, rfl, rfl, rfl, rfl⟩
  case shedding =>
    rw [shed, time]
    exact ⟨rfl, fun k => by simp [State.freshWindow], rfl, rfl⟩
  case descriptor =>
    rw [desc]
    refine ⟨rfl, rfl, rfl, rfl, rfl, rfl, rfl, fun outside => if_neg (by simpa using outside), ?_⟩
    cases state : s.desc.state <;> simp [State.descAfterSupplySwitch, State.elapse, state]
  case hostLink =>
    rw [link]
    exact ⟨rfl, rfl, rfl, rfl, rfl, rfl, rfl⟩
  · intro i
    rw [pool]
    exact poolCold_get_owner i
  · intro k
    rw [slots]
    simp

/-! ### Presence and the event flags -/

/-- PRC at the end of a supply-switch reset: settled, and in PROXY left at the first cause (R9, R21, R22). -/
theorem State.supplySwitchReset_prc (s : State) (us : Nat) (fast : Bool) :
    (s.supplySwitchReset us fast).prc =
      if s.prc.presence = .proxy ∧ s.resetCauses us ≠ [] then (s.settledAt us fast).wakingPrc
      else (s.settledAt us fast).prc := by
  obtain ⟨order, perm, taken⟩ := s.supplySwitchReset_announced us fast
  have proxy : (s.settledAt us fast).prc.presence = .proxy ↔ s.prc.presence = .proxy := by
    rw [State.settledAt_prc]
    cases s.prc.presence <;> simp [Presence.afterSupplySwitch]
  have empty : order ≠ [] ↔ s.resetCauses us ≠ [] := by
    rw [← s.resetEndEvents_causes us, Ne, Ne, List.map_eq_nil_iff]
    exact not_congr ⟨fun h => (h ▸ perm).nil_eq.symm, fun h => (h ▸ perm).eq_nil⟩
  simp only [taken.prc, proxy, empty]

/-- No escalation, handover or pending response outlasts a supply-switch reset (R21). -/
theorem State.supplySwitchReset_prc_rests (s : State) (us : Nat) (fast : Bool) :
    (s.supplySwitchReset us fast).escalateLine = false ∧ (s.supplySwitchReset us fast).prc.handoverDeadline = none
      ∧ (s.supplySwitchReset us fast).prc.pendingResponse = .none
      ∧ (s.supplySwitchReset us fast).prc.escalations = 0 := by
  rw [State.escalateLine, s.supplySwitchReset_prc us fast]
  split <;> exact ⟨rfl, rfl, rfl, rfl⟩

/-- The flag of an event's own that an announcement raises is an ALARMn (R166). -/
theorem ResetEndEvent.flag_eq_some {e : ResetEndEvent} {f : EventFlag} :
    e.flag = some f ↔ ∃ n, e = .expiry n ∧ f = .alarm n := by
  cases e <;> simp [ResetEndEvent.flag, eq_comm]

/-- A timer's flag number is 11 and more (R182). -/
theorem alarmFlag_number {n : Fin 4} {f : Fin 16} : (EventFlag.alarm n).number = f ↔ f.val = 11 + n.val := by
  rw [Fin.ext_iff, eq_comm]
  rfl

theorem logFull_number {f : Fin 16} : EventFlag.logFull.number = f ↔ f.val = 10 := by
  rw [Fin.ext_iff, eq_comm]
  rfl

/-- The flags that rise in a supply-switch reset (R99, R166, R172). -/
theorem State.supplySwitchReset_flags (s : State) (us : Nat) (fast : Bool) (f : Fin 16) :
    (s.supplySwitchReset us fast).events.flags.getLsbD f = true ↔
      s.events.flags.getLsbD f = true
        ∨ (∃ n : Fin 4, f.val = 11 + n.val ∧ s.alarms[n].expiresWithin s.time us = true)
        ∨ (f.val = 10 ∧ s.prc.presence.isProxy = true
          ∧ (s.supplySwitchReset us fast).wlog.records.length < s.wlog.records.length + (s.resetCauses us).length) := by
  obtain ⟨order, perm, taken⟩ := s.supplySwitchReset_announced us fast
  obtain ⟨flags, events, raised⟩ := taken.events
  have count : order.length = (s.resetCauses us).length := by
    rw [perm.length_eq, ← s.resetEndEvents_causes us, List.length_map]
  have before : (s.settledAt us fast).wlog.records.length = s.wlog.records.length := by
    rw [State.settledAt_wlog]
    exact List.length_map _
  have proxy : (s.settledAt us fast).prc.presence.isProxy = s.prc.presence.isProxy := by
    rw [State.settledAt_prc, Presence.afterSupplySwitch_isProxy]
  rw [events, Events.raised_flags, State.settledAt_events]
  refine or_congr_right ?_
  constructor
  · rintro ⟨g, listed, rfl⟩
    rcases (raised g).mp listed with ⟨e, announced, own⟩ | ⟨rfl, inProxy, fewer⟩
    · obtain ⟨n, rfl, rfl⟩ := ResetEndEvent.flag_eq_some.mp own
      exact .inl ⟨n, rfl, State.expiry_mem_resetEndEvents.mp (perm.mem_iff.mp announced)⟩
    · rw [proxy] at inProxy
      rw [before, count] at fewer
      exact .inr ⟨rfl, inProxy, fewer⟩
  · rintro (⟨n, number, expires⟩ | ⟨number, inProxy, fewer⟩)
    · refine ⟨.alarm n, (raised _).mpr (.inl ⟨.expiry n, ?_, rfl⟩), alarmFlag_number.mpr number⟩
      exact perm.mem_iff.mpr (State.expiry_mem_resetEndEvents.mpr expires)
    · refine ⟨.logFull, (raised _).mpr (.inr ⟨rfl, proxy.trans inProxy, ?_⟩), logFull_number.mpr number⟩
      rw [before, count]
      exact fewer

/-- The notices after a supply-switch reset are those of the flags that rose in it (R182, R186). -/
theorem State.supplySwitchReset_notices (s : State) (us : Nat) (fast : Bool) (f : Fin 16) :
    (s.supplySwitchReset us fast).events.notices[f] =
      if (s.supplySwitchReset us fast).events.flags.getLsbD f && !s.events.flags.getLsbD f && s.events.mask.getLsbD f
      then some (s.supplySwitchReset us fast).time else none := by
  obtain ⟨order, -, taken⟩ := s.supplySwitchReset_announced us fast
  obtain ⟨flags, events, -⟩ := taken.events
  rw [taken.time, events, Events.raised_notices, State.settledAt_events]
  simp

/-- The record of a SUPPLY_SWITCH cause that a log with room takes (R22, R97). -/
theorem Wlog.withCause_kept_records {w : Wlog} {q : Word} {now : Time} (c : WakeCause × Option Half)
    (next : w.nextSeq = some q) (room : w.records.length < 8) :
    (Wlog.withCause now w.kept c).records =
      w.records.map (fun r => { r with capture := none }) ++ [plainRecord q now c.1 c.2] := by
  have next' : w.kept.nextSeq = some q := next
  have room' : w.kept.records.length < 8 := by
    show (w.records.map _).length < 8
    rwa [List.length_map]
  unfold Wlog.withCause
  rw [next']
  dsimp only
  rw [if_pos room']
  rfl

/-- Settles O10, by PRC as it is settled and the announcements taken in order. -/
theorem supplySwitchSettlesPresence : Obligations.SupplySwitchSettlesPresence := by
  intro s us fast
  have prc := s.supplySwitchReset_prc us fast
  obtain ⟨time, clock, -⟩ := s.supplySwitchReset_settles us fast
  obtain ⟨outside, inside⟩ := s.supplySwitchReset_wlog us fast
  obtain ⟨line, deadline, response, escalations⟩ := s.supplySwitchReset_prc_rests us fast
  refine ⟨s.supplySwitchReset us fast, rfl, line, deadline, response, escalations, ?hosting, ?waking, ?quiet, ?woken,
    inside, ?record, s.supplySwitchReset_flags us fast, s.supplySwitchReset_notices us fast⟩
  case hosting =>
    intro hosting
    have passive : s.prc.presence.isProxy = false ∧ s.prc.presence.afterSupplySwitch = .passive := by
      rcases hosting with h | h | h <;> rw [h] <;> exact ⟨rfl, rfl⟩
    have settled : ¬ (s.prc.presence = .proxy ∧ s.resetCauses us ≠ []) := by
      rintro ⟨proxy, -⟩
      rw [proxy] at passive
      exact absurd passive.1 (by decide)
    rw [prc, if_neg settled, State.settledAt_prc, passive.2]
    exact ⟨rfl, rfl, outside passive.1⟩
  case waking =>
    intro waking
    have settled : ¬ (s.prc.presence = .proxy ∧ s.resetCauses us ≠ []) := by
      rintro ⟨proxy, -⟩
      rw [proxy] at waking
      exact absurd waking (by decide)
    have after : s.prc.presence.afterSupplySwitch = .waking := by rcases waking with h | h <;> rw [h] <;> rfl
    rw [prc, if_neg settled, State.settledAt_prc, after, clock]
    exact ⟨rfl, rfl⟩
  case quiet =>
    intro proxy quiet
    obtain ⟨order, perm, wlog⟩ := inside (by rw [proxy]; rfl)
    rw [quiet] at perm
    rw [prc, if_neg (fun woken => woken.2 quiet), State.settledAt_prc, proxy]
    refine ⟨rfl, rfl, ?_⟩
    rw [wlog, perm.eq_nil]
    rfl
  case woken =>
    intro proxy woken
    rw [prc, if_pos ⟨proxy, woken⟩, clock]
    exact ⟨rfl, rfl⟩
  case record =>
    intro q proxy next room only
    obtain ⟨order, perm, wlog⟩ := inside proxy
    rw [only] at perm
    rw [wlog, List.perm_singleton.mp perm]
    exact Wlog.withCause_kept_records _ next room

end Sys2Proof.Machine
end

/-! O15 and O25: the wake-ack timer with the escalation pulse, and the event flags bit by bit. -/
section

namespace Sys2Proof.Machine

/-! ### The wake-ack timer -/

theorem State.wakeAckTimerExpires_waking {s : State} {d : Nat} (waking : s.prc.presence = .waking)
    (timer : s.prc.wakeAckTimer = some d) (reached : d ≤ s.clock) :
    s.wakeAckTimerExpires = { s with prc := { s.prc with
      presence := .escalated
      escalations := 1
      pulseEnd := some (s.clock + s.settings.escalationPulseMs * 1000000)
      wakeAckTimer := some (s.clock + s.settings.wakeAckTimeoutMs * 1000000) } } := by
  have due : s.wakeAckTimerDue = true := by simp [State.wakeAckTimerDue, timer, waking, reached]
  rw [State.wakeAckTimerExpires, if_pos due, waking, beq_self_eq_true, if_pos rfl]
  rfl

theorem State.wakeAckTimerExpires_escalated {s : State} {d : Nat} (escalated : s.prc.presence = .escalated)
    (first : s.prc.escalations = 1) (timer : s.prc.wakeAckTimer = some d) (reached : d ≤ s.clock) :
    s.wakeAckTimerExpires = { s with
      prc := { s.prc with escalations := 2, wakeAckTimer := none }
      events := s.events.raise .wakeUnanswered s.time } := by
  have due : s.wakeAckTimerDue = true := by simp [State.wakeAckTimerDue, timer, escalated, first, reached]
  have other : ¬(s.prc.presence == .waking) = true := by rw [escalated]; decide
  rw [State.wakeAckTimerExpires, if_pos due, if_neg other]
  rfl

theorem State.pulseEnds_due {s : State} {d : Nat} (pulse : s.prc.pulseEnd = some d) (reached : d ≤ s.clock) :
    s.pulseEnds = { s with prc := { s.prc with pulseEnd := none } } := by
  have due : s.pulseDue = true := by
    unfold State.pulseDue
    rw [pulse]
    exact decide_eq_true reached
  rw [State.pulseEnds, if_pos due]

/-- Settles O15, by the two expiries and the pulse's end. -/
theorem wakeAckTimerEscalatesThenReports : Obligations.WakeAckTimerEscalatesThenReports := by
  refine ⟨fun s d waking timer reached => ?_, fun s d escalated first timer reached => ?_, fun s d pulse reached => ?_⟩
  · exact hostAfter_congr (State.wakeAckTimerExpires_waking waking timer reached)
  · exact hostAfter_congr (State.wakeAckTimerExpires_escalated escalated first timer reached)
  · refine ⟨_, congrArg Host.Outcome.next (State.pulseEnds_due pulse reached), rfl, ?_, rfl⟩
    rw [State.escalateLine, pulse]
    rfl

/-! ### The event flags -/

theorem flagBit_getLsbD (n i : Fin 16) : (flagBit n).getLsbD i = decide (i = n) := by
  revert n i
  decide

theorem Events.raise_flags_eq (e : Events) (f : EventFlag) (now : Time) :
    (e.raise f now).flags = e.flags ||| flagBit f.number := by
  refine BitVec.eq_of_getLsbD_eq fun i inside => ?_
  have set := e.raise_flags f now ⟨i, inside⟩
  have bit := flagBit_getLsbD f.number ⟨i, inside⟩
  rw [BitVec.getLsbD_or]
  exact set.trans (by rw [← bit])

/-- The bits of the flags of a list that have a property, set one after another. -/
theorem getLsbD_foldl_flagBit (p : Fin 16 → Bool) (j : Fin 16) :
    ∀ (l : List (Fin 16)) (m : Half),
      (l.foldl (fun m i => if p i then m ||| flagBit i else m) m).getLsbD j
        = (m.getLsbD j || decide (j ∈ l ∧ p j = true))
  | [], m => by simp
  | i :: rest, m => by
    rw [List.foldl_cons, getLsbD_foldl_flagBit p j rest]
    cases holds : p i with
    | false =>
      by_cases same : j = i
      · simp [same, holds]
      · simp [same]
    | true =>
      rw [if_pos rfl, BitVec.getLsbD_or, flagBit_getLsbD]
      by_cases same : j = i
      · simp [same, holds]
      · simp [same]

theorem Events.pendingSet_getLsbD (e : Events) (i : Fin 16) : e.pendingSet.getLsbD i = (e.notices[i]).isSome := by
  unfold Events.pendingSet
  rw [getLsbD_foldl_flagBit (fun i => (e.notices[i]).isSome)]
  simp

/-- Settles O25, bit by bit. -/
theorem raiseClearMaskAndPendingSet : Obligations.RaiseClearMaskAndPendingSet := by
  refine ⟨fun e f now m i => ⟨⟨e.raise_flags_eq f now, e.raise_mask f now⟩, e.raise_notices f now i, ⟨rfl, rfl⟩,
    e.dropNotices_get m i, ⟨rfl, rfl⟩, ?_⟩, Events.pendingSet_getLsbD⟩
  refine (e.dropNotices_get (~~~m) i).trans ?_
  rw [BitVec.getLsbD_not]
  cases m.getLsbD i <;> simp

end Sys2Proof.Machine
end

/-! O35, O36 and O37: the passes of the descriptor store. The codes a checksum pass writes are good and stay good; the
hold-down and the verdict of the verify pass, one equation for each outcome (R110, R117, R118, R127, R130). -/
section

namespace Sys2Proof.Machine

/-! ### The codes of the sections -/

theorem Memory.readRun_congr {m n : List Host.Cell} {a count : Nat}
    (same : ∀ k, k < count → Memory.read m (a + k) = Memory.read n (a + k)) :
    Memory.readRun m a count = Memory.readRun n a count := by
  rw [readRun_eq_map, readRun_eq_map]
  exact List.map_congr_left fun k inside => same k (List.mem_range.mp inside)

theorem Memory.readRun_writeRun {m : List Host.Cell} (canonical : Memory.wf m = true) (a : Nat) (bytes : List Byte) :
    Memory.readRun (Memory.writeRun m a bytes) a bytes.length = bytes := by
  rw [readRun_eq_map]
  refine List.ext_getElem (by simp) fun k listed inside => ?_
  simp [read_writeRun bytes canonical, inside]

theorem sectionContent_congr {m n : List Host.Cell} {k : Nat}
    (same : ∀ p, 128 * k ≤ p → p < 128 * k + 126 → Memory.read m p = Memory.read n p) :
    sectionContent m k = sectionContent n k :=
  Memory.readRun_congr fun _ inside => same _ (Nat.le_add_right _ _) (Nat.add_lt_add_left inside _)

/-- Whether a section is good depends on its own 128 bytes (R108, R109). -/
theorem sectionGood_congr {m n : List Host.Cell} {k : Nat}
    (same : ∀ p, 128 * k ≤ p → p < 128 * k + 128 → Memory.read m p = Memory.read n p) :
    sectionGood m k = sectionGood n k := by
  have content : sectionContent m k = sectionContent n k :=
    sectionContent_congr fun p low high => same p low (by omega)
  have code : Memory.readRun m (Config.sectionSize * k + 126) 2 = Memory.readRun n (Config.sectionSize * k + 126) 2 := by
    refine Memory.readRun_congr fun i inside => same _ ?_ ?_
    · simp only [Config.sectionSize]
      omega
    · simp only [Config.sectionSize]
      omega
  rw [sectionGood, sectionGood, content, code]

/-- A section's code is written in its last two bytes and nowhere else (R109). -/
theorem read_sumSection {m : List Host.Cell} (canonical : Memory.wf m = true) {k p : Nat} (other : p ≠ 128 * k + 126)
    (last : p ≠ 128 * k + 127) : Memory.read (sumSection m k) p = Memory.read m p := by
  unfold sumSection
  rw [Memory.read_writeRun _ canonical, dif_neg]
  rw [crc16Bytes_length]
  simp only [Config.sectionSize]
  omega

theorem sectionGood_sumSection_self {m : List Host.Cell} (canonical : Memory.wf m = true) (k : Nat) :
    sectionGood (sumSection m k) k = true := by
  have content : sectionContent (sumSection m k) k = sectionContent m k :=
    sectionContent_congr fun p _ high => read_sumSection canonical (by omega) (by omega)
  rw [sectionGood, content, beq_iff_eq]
  exact Memory.readRun_writeRun canonical _ _

theorem sectionGood_sumSection_other {m : List Host.Cell} (canonical : Memory.wf m = true) {j k : Nat} (other : j ≠ k) :
    sectionGood (sumSection m k) j = sectionGood m j :=
  sectionGood_congr fun p low high => read_sumSection canonical (by omega) (by omega)

theorem sectionGood_sumSections {m : List Host.Cell} (canonical : Memory.wf m = true) :
    ∀ (n k : Nat), k < n → sectionGood (sumSections m n) k = true
  | n + 1, k, below => by
    have wf := sumSections_wf n canonical
    rcases Nat.lt_succ_iff_lt_or_eq.mp below with earlier | rfl
    · rw [sumSections, sectionGood_sumSection_other wf (Nat.ne_of_lt earlier)]
      exact sectionGood_sumSections canonical n k earlier
    · exact sectionGood_sumSection_self wf k

theorem read_sumSections {m : List Host.Cell} (canonical : Memory.wf m = true) {p : Nat} :
    ∀ n : Nat, (∀ k, k < n → p ≠ 128 * k + 126 ∧ p ≠ 128 * k + 127) →
      Memory.read (sumSections m n) p = Memory.read m p
  | 0, _ => rfl
  | n + 1, other => by
    obtain ⟨notFirst, notLast⟩ := other n (Nat.lt_succ_self n)
    rw [sumSections, read_sumSection (sumSections_wf n canonical) notFirst notLast]
    exact read_sumSections canonical n fun k below => other k (Nat.lt_succ_of_lt below)

theorem sectionsGood_iff {m : List Host.Cell} {n : Nat} :
    sectionsGood m n = true ↔ ∀ k, k < n → sectionGood m k = true := by
  induction n with
  | zero => simp [sectionsGood]
  | succ n ih => rw [sectionsGood, Bool.and_eq_true, ih, Nat.forall_lt_succ_right]

theorem sectionsGood_eq_false {m : List Host.Cell} {n k : Nat} (below : k < n) (bad : sectionGood m k = false) :
    sectionsGood m n = false := by
  rw [Bool.eq_false_iff]
  intro good
  rw [sectionsGood_iff.mp good k below] at bad
  cases bad

/-! ### The hold-down -/

theorem State.applyHoldDown_passed {s : State} (passed : s.settings.holdDownMs * 1000 ≤ s.time.since s.desc.readyLow) :
    s.applyHoldDown = { s with desc := { s.desc with state := .published, holdDownEnd := none } } := if_pos passed

theorem State.applyHoldDown_within {s : State} (within : s.time.since s.desc.readyLow < s.settings.holdDownMs * 1000) :
    s.applyHoldDown = { s with desc := { s.desc with
      state := .holddown
      holdDownEnd := some (s.desc.readyLow + BitVec.ofNat 48 (s.settings.holdDownMs * 1000)) } } :=
  if_neg (Nat.not_le.mpr within)

/-- The state at the end of a checksum pass, before the hold-down applies (R117). -/
def State.summed (s : State) : State :=
  { s with desc := { s.desc with
      store := sumSections s.desc.store s.desc.passCount, published := s.desc.passCount
      passCount := 0, passLatest := none } }

theorem State.checksumPassEnds_summing {s : State} (summing : s.desc.state = .summing) :
    s.checksumPassEnds = s.summed.applyHoldDown.respond .ok
      ([BitVec.ofNat 8 s.desc.passCount, s.summed.applyHoldDown.desc.state.code]
        ++ bytesBE 2 s.summed.applyHoldDown.holdDownRemaining) := by
  unfold State.checksumPassEnds
  rw [summing, beq_self_eq_true, if_pos rfl]
  rfl

/-- Settles O35, by the codes that the pass writes and the hold-down after it. -/
theorem checksumPassAndHoldDownEnd : Obligations.ChecksumPassAndHoldDownEnd := by
  refine ⟨fun s summing canonical _ => ⟨sumSections s.desc.store s.desc.passCount,
    sectionGood_sumSections canonical _, fun p other => read_sumSections canonical _ other, fun passed => ?_,
    fun within => ?_⟩, fun s holding reached => ?_⟩
  · refine hostAfter_congr ?_
    rw [State.checksumPassEnds_summing summing, State.applyHoldDown_passed (s := s.summed) passed]
    rfl
  · refine hostAfter_congr ?_
    rw [State.checksumPassEnds_summing summing, State.applyHoldDown_within (s := s.summed) within]
    rfl
  · have due : s.holdDownDue = true := by simp [State.holdDownDue, holding, reached]
    exact ⟨_, congrArg Host.Outcome.next (if_pos due), rfl, rfl⟩

/-! ### The clearing pass -/

theorem State.resetWaits_of_request {s : State} {r : Message} {rest : List Message} (executing : s.link.executing = true)
    (requests : s.link.requests = r :: rest) (reset : r.kind = 0x03) : s.resetWaits = true := by
  simp [State.resetWaits, executing, requests, reset]

theorem State.resetWaits_eq_false {s : State}
    (without : s.link.executing = true → ∀ r rest, s.link.requests = r :: rest → r.kind ≠ 0x03) :
    s.resetWaits = false := by
  unfold State.resetWaits
  cases requests : s.link.requests with
  | nil => rfl
  | cons r rest =>
    cases executing : s.link.executing with
    | false => rfl
    | true => simpa using without executing r rest requests

/-- The state at the end of a clearing pass, before STARTED or a RESET's response goes out (R127). -/
def State.cleared (s : State) : State :=
  { s with desc := { s.desc with store := [], state := .empty, published := 0, passLatest := none } }

theorem State.clearingPassEnds_starting {s : State} (clearing : s.desc.state = .clearing)
    (starting : s.link.startUp = .clearing) (requests : s.link.requests = []) :
    s.clearingPassEnds = s.cleared.sendStarted 0 := by
  have waits : (s.cleared.sendStarted 0).resetWaits = false :=
    resetWaits_eq_false fun _ r rest head => by
      have none : (s.cleared.sendStarted 0).link.requests = [] := requests
      rw [none] at head
      cases head
  unfold State.clearingPassEnds
  rw [clearing, beq_self_eq_true, if_pos rfl]
  dsimp only
  rw [starting, beq_self_eq_true, if_pos rfl]
  exact if_neg (by rw [State.cleared] at waits; rw [waits]; exact Bool.false_ne_true)

theorem State.clearingPassEnds_reset {s : State} {r : Message} (clearing : s.desc.state = .clearing)
    (running : s.link.startUp = .running) (executing : s.link.executing = true) (requests : s.link.requests = [r])
    (reset : r.kind = 0x03) : s.clearingPassEnds = s.cleared.respond .ok r.body := by
  have waits : s.cleared.resetWaits = true := resetWaits_of_request executing requests reset
  have notStarting : ¬(StartUp.running == StartUp.clearing) = true := by decide
  unfold State.clearingPassEnds
  rw [clearing, beq_self_eq_true, if_pos rfl]
  dsimp only
  rw [running, if_neg notStarting, requests]
  exact if_pos waits

theorem State.chooseFrame_response_alone {s : State} {m : Message} (together : Bool) (side : s.link.tx = none)
    (started : s.link.startUp ≠ .clearing) (slot : s.link.slot = some m) (notices : s.events.firstPending = none) :
    s.chooseFrame together = s.sendResponse m := by
  unfold State.chooseFrame
  simp [side, started, slot, notices]

/-- Settles O36, by STARTED or the response that the pass sends. -/
theorem clearingPassEndEmptiesStore : Obligations.ClearingPassEndEmptiesStore := by
  intro s clearing
  refine ⟨_, rfl, fun p => rfl, fun starting requests _ => ?_,
    fun tag scope running executing requests slot side notices => ?_⟩
  · have ends : s.clearingPassEnds = s.cleared.sendStarted 0 := State.clearingPassEnds_starting clearing starting requests
    have settled : s.hostAfter (s.cleared.sendStarted 0) = s.cleared.sendStarted 0 :=
      State.settle_of_choice_waiting (State.chooseFrame_of_busy _ rfl) (.inr (.inl requests))
    exact (hostAfter_congr ends).trans (congrArg _ settled)
  · have answered := State.respond_of_requests (s := s.cleared) requests .ok [scope]
    have ends := (State.clearingPassEnds_reset clearing running executing requests rfl).trans answered
    have choice := State.chooseFrame_response_alone (s := { s.cleared with link := { s.link with
      requests := [], executing := false, slot := some ⟨0x83, tag, [0, scope]⟩ } }) s.link.tx.isNone side
        (by simp [running]) rfl notices
    refine (hostAfter_congr ends).trans (congrArg _ ?_)
    refine (State.settle_of_choice_waiting choice (.inr (.inl rfl))).trans ?_
    simp only [State.sendResponse, State.send, State.cleared, slot]

/-! ### The verify pass -/

theorem State.judged_passed {s : State} (good : sectionsGood s.desc.store s.desc.published = true)
    (passed : s.settings.holdDownMs * 1000 ≤ s.time.since s.desc.readyLow) :
    s.judged = { s with desc := { s.desc with passLatest := none, state := .published, holdDownEnd := none } } :=
  (if_pos good).trans (applyHoldDown_passed (s := { s with desc := { s.desc with passLatest := none } }) passed)

theorem State.judged_within {s : State} (good : sectionsGood s.desc.store s.desc.published = true)
    (within : s.time.since s.desc.readyLow < s.settings.holdDownMs * 1000) :
    s.judged = { s with desc := { s.desc with
      passLatest := none, state := .holddown
      holdDownEnd := some (s.desc.readyLow + BitVec.ofNat 48 (s.settings.holdDownMs * 1000)) } } :=
  (if_pos good).trans (applyHoldDown_within (s := { s with desc := { s.desc with passLatest := none } }) within)

theorem State.judged_bad {s : State} {k : Nat} (below : k < s.desc.published) (bad : sectionGood s.desc.store k = false) :
    s.judged = ({ s with
      desc := { s.desc with passLatest := none, state := .faulted }
      events := s.events.raise .descFault s.time } : State).takeCause ⟨.descFault, none, false, none⟩ := by
  rw [State.judged, sectionsGood_eq_false below bad, if_neg Bool.false_ne_true]
  rfl

theorem State.verifyPassEnds_plain {s : State} (verifying : s.desc.state = .verifying)
    (without : s.link.executing = true → ∀ r rest, s.link.requests = r :: rest → r.kind ≠ 0x03) :
    s.verifyPassEnds = s.judged := by
  have waits : s.judged.resetWaits = false := by
    refine resetWaits_eq_false ?_
    simpa using without
  rw [State.verifyPassEnds_eq, if_pos verifying, waits, if_neg Bool.false_ne_true]

theorem State.verifyPassEnds_reset {s : State} {r : Message} {rest : List Message} (verifying : s.desc.state = .verifying)
    (executing : s.link.executing = true) (requests : s.link.requests = r :: rest) (reset : r.kind = 0x03) :
    s.verifyPassEnds = s.judged.resetDescriptorScope := by
  have waits : s.judged.resetWaits = true :=
    resetWaits_of_request (by simpa using executing) (by simpa using requests) reset
  rw [State.verifyPassEnds_eq, if_pos verifying, if_pos waits]

/-- Settles O37, by the verdict of the pass and the RESET that waits. -/
theorem verifyPassEndJudgesSectionsAndReset : Obligations.VerifyPassEndJudgesSectionsAndReset := by
  refine ⟨fun s verifying without => ?_, fun s r rest verifying silent executing requests reset => ?_⟩
  · have ends := State.verifyPassEnds_plain verifying without
    refine ⟨fun good within => hostAfter_congr ?_, fun good passed => hostAfter_congr ?_,
      fun k below bad => hostAfter_congr ?_⟩
    · exact ends.trans (State.judged_within good within)
    · exact ends.trans (State.judged_passed good passed)
    · exact ends.trans (State.judged_bad below bad)
  · have ends := State.verifyPassEnds_reset verifying executing requests reset
    refine ⟨fun good within => hostAfter_congr ?_, fun good passed => hostAfter_congr ?_,
      fun k below bad outside => hostAfter_congr ?_⟩
    · rw [ends, State.judged_within good within]
      rfl
    · rw [ends, State.judged_passed good passed, State.resetDescriptorScope]
      dsimp only
      rw [silent]
      rfl
    · let faulted : State := { s with
        desc := { s.desc with passLatest := none, state := .faulted }, events := s.events.raise .descFault s.time }
      rw [ends, State.judged_bad below bad, State.takeCause_dropped (s := faulted) outside]
      rfl

end Sys2Proof.Machine
end

/-! O38, O39 and O40: the sideband port. What each condition and byte of the bus does, one equation for each case
(R120 to R125), and the deferred request at the end of a transaction (R113, R128). -/
section

namespace Sys2Proof.Machine

section
variable {s : State} {x : Transaction} {b : Byte} {start : Time} {stall : Nat}

/-! ### Starts and address bytes -/

theorem State.busStarts_first (silent : s.desc.transaction = none) : s.busStarts = { s with desc := { s.desc with
    bus := .afterStart s.time s.settings.sidebandStallMs, sda := .released } } := by
  rw [State.busStarts, silent]

theorem State.busStarts_repeated (inProgress : s.desc.transaction = some x) : s.busStarts = { s with desc := { s.desc with
    bus := .afterRepeatedStart, sda := .released } } := by
  rw [State.busStarts, inProgress]

/-- An address of the part's own names the descriptor at 3Ah and the page select at 3Bh (R120). -/
theorem sbTarget_own (own : b.toNat / 2 = 0x3A ∨ b.toNat / 2 = 0x3B) :
    sbTarget b = if b.toNat / 2 = 0x3A then .descriptor else .pageSelect := by
  unfold sbTarget
  split
  · rfl
  · rename_i other
    rw [if_pos (own.resolve_left other)]

theorem sbTarget_other (notDescriptor : b.toNat / 2 ≠ 0x3A) (notPage : b.toNat / 2 ≠ 0x3B) : sbTarget b = .other := by
  rw [sbTarget, if_neg notDescriptor, if_neg notPage]

theorem sbTarget_ne_other (own : b.toNat / 2 = 0x3A ∨ b.toNat / 2 = 0x3B) : sbTarget b ≠ .other := by
  rw [sbTarget_own own]
  split <;> decide

/-- Whether an address byte after a start begins a transaction (R121). -/
theorem State.takeAddress_own (bus : s.desc.bus = .afterStart start stall) (own : sbTarget b ≠ .other) :
    s.takeAddress b =
      if s.desc.state == .published && s.desc.deferred == .none then
        { s with desc := { s.desc with
          bus := .nothing, transaction := some ⟨start, stall, sbTarget b, sbReading b, 0, false, false⟩, sda := .ack } }
      else s.refuseAddress := by
  rw [State.takeAddress, bus]
  cases target : sbTarget b with
  | other => exact absurd target own
  | descriptor => rfl
  | pageSelect => rfl

theorem State.takeAddress_other (bus : s.desc.bus = .afterStart start stall) (other : sbTarget b = .other) :
    s.takeAddress b = { s with desc := { s.desc with bus := .nothing, sda := .nack } } := by
  rw [State.takeAddress, bus, other]

/-- An address byte after a repeated start begins a segment (R121). -/
theorem State.takeAddress_segment (bus : s.desc.bus = .afterRepeatedStart) (inProgress : s.desc.transaction = some x)
    (published : s.desc.state = .published) : s.takeAddress b = { s with desc := { s.desc with
      bus := .nothing
      transaction := some { x with target := sbTarget b, reading := sbReading b, dataBytes := 0, released := false }
      sda := if sbTarget b = .other then .nack else .ack } } := by
  rw [State.takeAddress, bus, inProgress, published]
  dsimp only
  rw [beq_self_eq_true, if_pos rfl]
  by_cases other : sbTarget b = .other
  · rw [if_pos (beq_iff_eq.mpr other), if_pos other]
  · rw [if_neg (fun same => other (beq_iff_eq.mp same)), if_neg other]

/-! ### Data bytes -/

theorem Desc.segment_eq_some {d : Desc} (bus : d.bus = .nothing) (inProgress : d.transaction = some x) :
    d.segment x.target x.reading = some x := by
  simp [Desc.segment, bus, inProgress]

theorem State.writePage_first {p : Fin 4} (segment : s.desc.segment .pageSelect false = some x) (first : x.dataBytes = 0)
    (page : b.toNat = p.val) : s.writePage b = { s with desc := { s.desc with
      page := p, sda := .ack, transaction := some { x with dataBytes := 1 } } } := by
  have inside : x.dataBytes = 0 ∧ b.toNat < 4 := ⟨first, page ▸ p.isLt⟩
  have same : (⟨b.toNat, inside.2⟩ : Fin 4) = p := Fin.ext page
  rw [State.writePage, segment]
  dsimp only
  rw [dif_pos inside, same, first]

theorem State.writePage_refused (segment : s.desc.segment .pageSelect false = some x)
    (bad : x.dataBytes ≠ 0 ∨ 4 ≤ b.toNat) : s.writePage b = { s with desc := { s.desc with
      sda := .nack, transaction := some { x with dataBytes := x.dataBytes + 1 } } } := by
  have outside : ¬(x.dataBytes = 0 ∧ b.toNat < 4) := by omega
  rw [State.writePage, segment]
  exact dif_neg outside

theorem State.writeOffset_first (segment : s.desc.segment .descriptor false = some x) (first : x.dataBytes = 0) :
    s.writeOffset b = { s with desc := { s.desc with
      readOffset := b, sda := .ack, transaction := some { x with dataBytes := 1 } } } := by
  rw [State.writeOffset, segment]
  dsimp only
  rw [if_pos first, first]

theorem State.writeOffset_refused (segment : s.desc.segment .descriptor false = some x) (later : x.dataBytes ≠ 0) :
    s.writeOffset b = { s with desc := { s.desc with
      sda := .nack, transaction := some { x with dataBytes := x.dataBytes + 1 } } } := by
  rw [State.writeOffset, segment]
  exact if_neg later

theorem State.readPage_sends (segment : s.desc.segment .pageSelect true = some x) (listening : x.released = false)
    (ack : Bool) : s.readPage ack = { s with desc := { s.desc with
      sda := .data (BitVec.ofNat 8 s.desc.page.val)
      transaction := some { x with dataBytes := x.dataBytes + 1, sent := true, released := !ack } } } := by
  rw [State.readPage, segment]
  exact if_neg (by rw [listening]; exact Bool.false_ne_true)

theorem State.readPage_released (segment : s.desc.segment .pageSelect true = some x) (released : x.released = true)
    (ack : Bool) : s.readPage ack = { s with desc := { s.desc with sda := .released } } := by
  rw [State.readPage, segment]
  exact if_pos released

theorem State.readDescriptor_sends (segment : s.desc.segment .descriptor true = some x) (listening : x.released = false)
    (ack : Bool) : s.readDescriptor ack = { s with desc := { s.desc with
      sda := .data s.desc.sidebandByte
      readOffset := s.desc.readOffset + 1
      transaction := some { x with dataBytes := x.dataBytes + 1, sent := true, released := !ack } } } := by
  rw [State.readDescriptor, segment]
  exact if_neg (by rw [listening]; exact Bool.false_ne_true)

theorem State.readDescriptor_released (segment : s.desc.segment .descriptor true = some x)
    (released : x.released = true) (ack : Bool) :
    s.readDescriptor ack = { s with desc := { s.desc with sda := .released } } := by
  rw [State.readDescriptor, segment]
  exact if_pos released

/-! ### The end of a transaction -/

theorem State.busStops_without (silent : s.desc.transaction = none) : s.busStops = s := by
  rw [State.busStops, silent]

/-- A stop counts SIDEBAND_READS where data was sent, and ends the transaction (R124). -/
theorem State.busStops_ends (inProgress : s.desc.transaction = some x) : s.busStops =
    ({ s with counters := if x.sent then s.counters.set 21 (s.counters[(21 : Fin 23)] + 1) else s.counters }
      : State).endTransaction := by
  rw [State.busStops, inProgress]
  cases sent : x.sent <;> simp [sent, State.count, State.endTransaction, Counter.position]

theorem State.sidebandStalls_ends (inProgress : s.desc.transaction = some x)
    (stalled : x.stallMs * 1000 ≤ s.time.since x.start) : s.sidebandStalls = s.endTransaction := by
  have due : s.stallDue = true := by
    unfold State.stallDue
    rw [inProgress]
    exact decide_eq_true stalled
  rw [State.sidebandStalls, if_pos due]

theorem State.endTransaction_plain (deferred : s.desc.deferred = .none) : s.endTransaction = { s with
    desc := { s.desc with bus := .nothing, transaction := none, sda := .released } } := by
  unfold State.endTransaction State.takeDeferred
  dsimp only
  rw [deferred]

/-- A deferred DESC_OPEN is taken and answered (R113, R124). -/
theorem State.endTransaction_open {r : Message} {rest : List Message} (deferred : s.desc.deferred = .descOpen)
    (requests : s.link.requests = r :: rest) : s.endTransaction = { s with
      desc := { s.desc with
        bus := .nothing, transaction := none, sda := .released
        readyLow := s.time, page := 0, readOffset := 0, deferred := .none, state := .editing }
      link := { s.link with
        requests := rest, executing := false, slot := some ⟨responseKind r.kind, r.tag, [0, 5, 1]⟩ } } := by
  unfold State.endTransaction State.takeDeferred
  dsimp only
  rw [deferred]
  unfold State.respond State.leavePublished
  dsimp only
  rw [requests]
  rfl

/-- A deferred RESET leaves PUBLISHED for the clearing pass (R124, R128). -/
theorem State.endTransaction_reset (deferred : s.desc.deferred = .reset) : s.endTransaction = { s with
    desc := { s.desc with
      bus := .nothing, transaction := none, sda := .released
      readyLow := s.time, page := 0, readOffset := 0, deferred := .none
      state := .clearing, holdDownEnd := none, passLatest := some (s.clock + 1000000) } } := by
  unfold State.endTransaction State.takeDeferred
  dsimp only
  rw [deferred]
  rfl

end

/-! ### The obligations -/

/-- Settles O38, by the bus condition that an address byte finds. -/
theorem busStartsAndAddressBytes : Obligations.BusStartsAndAddressBytes := by
  refine ⟨fun s => ⟨rfl, fun silent => congrArg Host.Outcome.next (State.busStarts_first silent),
    fun x inProgress => congrArg Host.Outcome.next (State.busStarts_repeated inProgress)⟩,
    fun s b start stall bus => ⟨fun published free own => congrArg Host.Outcome.next ?_,
      fun refused own => congrArg Host.Outcome.next ?_,
      fun notDescriptor notPage => congrArg Host.Outcome.next ?_⟩,
    fun s b x bus inProgress published => ⟨fun own => congrArg Host.Outcome.next ?_,
      fun notDescriptor notPage => congrArg Host.Outcome.next ?_⟩⟩
  · rw [State.takeAddress_own bus (sbTarget_ne_other own), published, free, sbTarget_own own]
    rfl
  · have closed : (s.desc.state == .published && s.desc.deferred == .none) = false := by
      rcases refused with h | h <;> simp [h]
    rw [State.takeAddress_own bus (sbTarget_ne_other own), closed]
    rfl
  · exact State.takeAddress_other bus (sbTarget_other notDescriptor notPage)
  · rw [State.takeAddress_segment bus inProgress published, if_neg (sbTarget_ne_other own), sbTarget_own own]
    rfl
  · rw [State.takeAddress_segment bus inProgress published, sbTarget_other notDescriptor notPage, if_pos rfl]
    rfl

/-- Settles O39, by the segment that a data byte belongs to. -/
theorem sidebandSegments : Obligations.SidebandSegments := by
  have segmentOf : ∀ {s : State} {x : Transaction} {target : SbTarget} {reading : Bool}, s.desc.bus = .nothing →
      s.desc.transaction = some x → x.target = target → x.reading = reading →
      s.desc.segment target reading = some x := by
    intro s x target reading bus inProgress named direction
    rw [← named, ← direction]
    exact Desc.segment_eq_some bus inProgress
  refine ⟨fun s x b ack bus inProgress page => ⟨fun writing first p value => ?_, fun writing bad => ?_,
      fun reading listening => ?_, fun reading released => ?_⟩,
    fun s x b ack bus inProgress descriptor => ⟨fun writing first => ?_, fun writing later => ?_,
      fun reading listening => ?_, fun reading released => ?_⟩⟩
  · exact congrArg Host.Outcome.next (State.writePage_first (segmentOf bus inProgress page writing) first value)
  · exact congrArg Host.Outcome.next (State.writePage_refused (segmentOf bus inProgress page writing) bad)
  · exact congrArg Host.Outcome.next (State.readPage_sends (segmentOf bus inProgress page reading) listening ack)
  · exact congrArg Host.Outcome.next (State.readPage_released (segmentOf bus inProgress page reading) released ack)
  · exact congrArg Host.Outcome.next (State.writeOffset_first (segmentOf bus inProgress descriptor writing) first)
  · exact congrArg Host.Outcome.next (State.writeOffset_refused (segmentOf bus inProgress descriptor writing) later)
  · exact congrArg Host.Outcome.next
      (State.readDescriptor_sends (segmentOf bus inProgress descriptor reading) listening ack)
  · exact congrArg Host.Outcome.next
      (State.readDescriptor_released (segmentOf bus inProgress descriptor reading) released ack)

/-- Settles O40, by the request that the transaction deferred. -/
theorem transactionEndsAndDeferredRequest : Obligations.TransactionEndsAndDeferredRequest := by
  refine ⟨fun s silent => hostAfter_congr (State.busStops_without silent), fun s x inProgress => ?_⟩
  have stops := State.busStops_ends inProgress
  have stalls := fun stalled => State.sidebandStalls_ends (s := s) inProgress stalled
  refine ⟨fun deferred => ?_, fun r rest deferred requests => ?_, fun deferred => ?_⟩
  · exact ⟨hostAfter_congr (stops.trans (State.endTransaction_plain deferred)),
      fun stalled => hostAfter_congr ((stalls stalled).trans (State.endTransaction_plain deferred))⟩
  · exact ⟨hostAfter_congr (stops.trans (State.endTransaction_open deferred requests)),
      fun stalled => hostAfter_congr ((stalls stalled).trans (State.endTransaction_open deferred requests))⟩
  · exact ⟨hostAfter_congr (stops.trans (State.endTransaction_reset deferred)),
      fun stalled => hostAfter_congr ((stalls stalled).trans (State.endTransaction_reset deferred))⟩

end Sys2Proof.Machine
end

/-! O42: a wake cause recorded, captured or coalesced (R9, R95 to R100). -/
section

namespace Sys2Proof.Machine

/-! ### What taking a cause does -/

theorem State.causeAllowed_iff (s : State) (o : Offer) :
    s.causeAllowed o = true ↔ (o.cause = .linkDown → s.settings.wakeOnLinkDown = 1)
      ∧ (o.cause = .linkUp → o.first = false ∧ s.settings.wakeOnLinkUp = 1) := by
  unfold State.causeAllowed
  cases o.cause <;> simp

theorem State.takeCause_refused {s : State} {o : Offer}
    (refused : s.causeAllowed o = false ∨ s.prc.presence.isProxy = false) : s.takeCause o = s := by
  refine if_neg ?_
  rcases refused with h | h <;> simp [h]

/-- PRC as a cause taken in a proxy state leaves it (R9). -/
def State.wokenPrc (s : State) : Prc := if s.prc.presence = .proxy then s.wakingPrc else s.prc

/-- With 8 records, or no sequence number left, a cause is coalesced, and PRC is still told (R99, R100). -/
theorem State.takeCause_of_full {s : State} {o : Offer} (allowed : s.causeAllowed o = true)
    (proxy : s.prc.presence.isProxy = true) (full : 8 ≤ s.wlog.records.length ∨ s.wlog.nextSeq = none) :
    s.takeCause o = { s with
      wlog := { s.wlog with records := coalescedInto s.wlog.records }
      events := s.events.raise .logFull s.time
      prc := s.wokenPrc } := by
  have coalesces : s.takeCause o = s.coalesce.reportWake := by
    unfold State.takeCause
    rw [if_pos (by simp [allowed, proxy])]
    rcases full with many | exhausted
    · cases s.wlog.nextSeq with
      | none => rfl
      | some q => exact if_neg (Nat.not_lt.mpr many)
    · rw [exhausted]
  rw [coalesces, State.reportWake_eq, State.coalesce, coalesceNewest_eq]
  rfl

/-! ### The capture slot -/

theorem Wlog.freeSlot_eq_none {w : Wlog} (taken : ∀ k : Fin 2, w.slots[k] ≠ none) : w.freeSlot = none := by
  unfold Wlog.freeSlot
  rw [List.find?_eq_none]
  intro k _ free
  exact taken k (Option.isNone_iff_eq_none.mp free)

theorem Wlog.freeSlot_eq_some {w : Wlog} {k : Fin 2} (free : w.slots[k] = none)
    (lower : ∀ j : Fin 2, j < k → w.slots[j] ≠ none) : w.freeSlot = some k := by
  unfold Wlog.freeSlot
  rw [List.find?_eq_some_iff_getElem]
  refine ⟨by simp [free], k.val, by simpa using Nat.le_of_lt_succ k.isLt, by simp, fun j below => ?_⟩
  have taken := Option.ne_none_iff_isSome.mp (lower ⟨j, Nat.lt_trans below k.isLt⟩ below)
  simpa [Fin.getElem_fin] using taken

theorem State.addRecord_plain {s : State} {o : Offer} (q : Word)
    (plain : o.frame = none ∨ ∀ k : Fin 2, s.wlog.slots[k] ≠ none) : s.addRecord q o = { s with wlog := { s.wlog with
      records := s.wlog.records ++ [⟨q, s.time, o.cause, o.detail, none, 0⟩]
      nextSeq := if q = 0xFFFFFFFF then none else some (q + 1) } } := by
  unfold State.addRecord
  rcases plain with without | taken
  · rw [without]
    rfl
  · rw [Wlog.freeSlot_eq_none taken]
    cases o.frame <;> rfl

theorem State.addRecord_captures {s : State} {o : Offer} {k : Fin 2} {b : Fin 10} {n : Nat} (q : Word)
    (frame : o.frame = some (b, n)) (free : s.wlog.freeSlot = some k) : s.addRecord q o = { s with
      pool := s.pool.set b { s.pool[b] with owner := .captured }
      wlog := { s.wlog with
        records := s.wlog.records ++ [⟨q, s.time, o.cause, o.detail, some ⟨k, n⟩, 0⟩]
        slots := s.wlog.slots.set k (some b)
        nextSeq := if q = 0xFFFFFFFF then none else some (q + 1) } } := by
  unfold State.addRecord
  rw [frame, free]
  rfl

/-- Settles O42, by the sequence number and the room that the cause finds. -/
theorem wakeCauseAddsOrCoalesces : Obligations.WakeCauseAddsOrCoalesces := by
  refine ⟨fun s o => ⟨s.causeAllowed_iff o, State.takeCause_refused, fun q allowed proxy next room =>
    ⟨fun plain => ?_, fun k b n frame free lower => ?_⟩⟩, fun s o allowed proxy =>
    ⟨fun older newest records full => ?_, fun empty exhausted => ?_⟩⟩
  · rw [State.takeCause_of_room allowed proxy next room, State.addRecord_plain q plain, State.reportWake_eq]
  · rw [State.takeCause_of_room allowed proxy next room,
      State.addRecord_captures q frame (Wlog.freeSlot_eq_some free lower), State.reportWake_eq]
  · have reached : 8 ≤ s.wlog.records.length ∨ s.wlog.nextSeq = none :=
      full.imp_left fun seven => by simp [records, seven]
    have newer : coalescedInto s.wlog.records = older ++ [{ newest with
        coalesced := if newest.coalesced < 255 then newest.coalesced + 1 else 255 }] := by
      simp [coalescedInto, records]
    rw [State.takeCause_of_full allowed proxy reached, newer]
    rfl
  · have still : coalescedInto s.wlog.records = s.wlog.records := by
      rw [empty]
      rfl
    rw [State.takeCause_of_full allowed proxy (.inr exhausted), still]
    rfl

end Sys2Proof.Machine
end

/-! O44, O46, O47 and O48: the link monitor's events, one equation for each link state (R133 to R145), and the
evaluation of the shed tiers (R152, R155, R156). -/
section

namespace Sys2Proof.Machine

section
variable {s : State} {c : RateClass} {e : Time}

/-! ### PHY_LINK and the settle end -/

theorem State.testLinkPair_settles {m : Measured} (latest : s.lmon.latest = some m) (usable : classOf m.value = some c)
    (level : s.pins.phyLink = true) : s.testLinkPair = { s with lmon := { s.lmon with
      link := .settling c (s.time + BitVec.ofNat 48 (s.settings.settleMs * 1000)) } } := by
  unfold State.testLinkPair
  rw [latest]
  dsimp only
  rw [usable]
  exact if_pos level

theorem State.testLinkPair_stays (without : s.pins.phyLink = false
    ∨ s.lmon.latest.bind (fun m => classOf m.value) = none) : s.testLinkPair = s := by
  unfold State.testLinkPair
  cases latest : s.lmon.latest with
  | none => rfl
  | some m =>
    cases usable : classOf m.value with
    | none => simp [usable]
    | some c =>
      rcases without with low | unusable
      · simp [usable, low]
      · simp [latest, usable] at unusable

theorem State.phyLinkFalls_settling (settling : s.lmon.link = .settling c e) : s.phyLinkFalls = { s with
    pins := { s.pins with phyLink := false }, lmon := { s.lmon with link := .down } } := by
  unfold State.phyLinkFalls
  dsimp only
  rw [settling]

theorem State.phyLinkFalls_down (down : s.lmon.link = .down) : s.phyLinkFalls = { s with
    pins := { s.pins with phyLink := false } } := by
  unfold State.phyLinkFalls
  dsimp only
  rw [down]

theorem State.phyLinkFalls_up (up : s.lmon.link = .up c) : s.phyLinkFalls =
    ({ s with pins := { s.pins with phyLink := false } } : State).leaveUp .down := by
  unfold State.phyLinkFalls
  dsimp only
  rw [up]

theorem State.settles_enters (settling : s.lmon.link = .settling c s.time) : s.settles = s.entersUp c := by
  have due : s.settleDue = true := by simp [State.settleDue, settling]
  unfold State.settles
  rw [settling]
  exact if_pos due

/-- Settles O44, by the link state that the event finds. -/
theorem linkSettlesAndEntersUp : Obligations.LinkSettlesAndEntersUp := by
  intro s
  let risen : State := { s with pins := { s.pins with phyLink := true } }
  have rises : s.phyLinkRises = match s.lmon.link with
      | .down => risen.testLinkPair
      | .settling _ _ | .up _ => risen := rfl
  refine ⟨fun m c down latest usable => congrArg Host.Outcome.next ?_, fun without => congrArg Host.Outcome.next ?_,
    fun c e settling => ⟨hostAfter_congr (State.phyLinkFalls_settling settling), fun reached => ?_⟩,
    fun down => hostAfter_congr (State.phyLinkFalls_down down)⟩
  · rw [rises, down]
    exact State.testLinkPair_settles (s := risen) latest usable rfl
  · rw [rises]
    cases link : s.lmon.link with
    | down =>
      have unusable := without.resolve_left (fun other => other link)
      exact State.testLinkPair_stays (s := risen) (.inr unusable)
    | settling => rfl
    | up => rfl
  · subst reached
    exact hostAfter_congr (State.settles_enters settling)

/-! ### Measurements -/

theorem measurementOf_eq (cycles : Nat) :
    measurementOf cycles = if cycles * 16 / 10 ≤ 4000000 then cycles * 16 / 10 else 4000000 := Nat.min_def

/-- The three bands of the usable classes (R134). -/
theorem classOf_eq_some (m : Nat) : (classOf m = some .r10 ↔ 38000 ≤ m ∧ m ≤ 42000)
    ∧ (classOf m = some .r100 ↔ 380000 ≤ m ∧ m ≤ 420000) ∧ (classOf m = some .r1000 ↔ 1900000 ≤ m ∧ m ≤ 2100000) := by
  unfold classOf
  split
  · simp
    omega
  · split
    · simp
      omega
    · split
      · simp
        omega
      · simp
        omega

/-- The state in which a measurement has become the latest and has not yet acted (R133). -/
def State.measured (s : State) (cycles : Nat) : State :=
  { s with lmon := { s.lmon with
      latest := some ⟨measurementOf cycles, s.time⟩
      intervalEnd := s.lmon.intervalEnd + BitVec.ofNat 48 10000 } }

theorem State.takeMeasurement_due (due : s.lmon.intervalEnd = s.time) (cycles : Nat) :
    s.takeMeasurement cycles = (s.measured cycles).actOnMeasurement (measurementOf cycles) :=
  if_pos (by rw [State.measurementDue, due, beq_self_eq_true])

theorem State.testRate_within {m r : Nat} (reference : s.lmon.reference = some r)
    (within : ((m - r) + (r - m)) * 1000 ≤ r * s.settings.rateTolerancePermille) : s.testRate m = s := by
  unfold State.testRate
  rw [reference]
  exact if_neg (by simpa [rateChanged] using within)

theorem State.testRate_changes {m r : Nat} (reference : s.lmon.reference = some r)
    (beyond : r * s.settings.rateTolerancePermille < ((m - r) + (r - m)) * 1000) : s.testRate m = { s with
      lmon := { s.lmon with reference := some m }, events := s.events.raise .rateChanged s.time } := by
  unfold State.testRate
  rw [reference]
  exact if_pos (by simpa [rateChanged] using beyond)

theorem State.actOnMeasurement_down (down : s.lmon.link = .down) (m : Nat) :
    s.actOnMeasurement m = s.testLinkPair := by
  rw [State.actOnMeasurement, down]

theorem State.actOnMeasurement_settling (settling : s.lmon.link = .settling c e) (m : Nat) :
    s.actOnMeasurement m = match classOf m with
      | none => { s with lmon := { s.lmon with link := .down } }
      | some d => if d = c then s else { s with lmon := { s.lmon with
          link := .settling d (s.time + BitVec.ofNat 48 (s.settings.settleMs * 1000)) } } := by
  rw [State.actOnMeasurement, settling]
  rfl

theorem State.actOnMeasurement_up (up : s.lmon.link = .up c) {m : Nat} (same : classOf m = some c) :
    s.actOnMeasurement m = s.testRate m := by
  rw [State.actOnMeasurement, up, same]
  exact if_pos rfl

theorem State.actOnMeasurement_leaves (up : s.lmon.link = .up c) {m : Nat} (other : classOf m ≠ some c) :
    s.actOnMeasurement m = s.leaveUp (match classOf m with
      | none => .down
      | some d => .settling d (s.time + BitVec.ofNat 48 (s.settings.settleMs * 1000))) := by
  rw [State.actOnMeasurement, up]
  cases measured : classOf m with
  | none => rfl
  | some d => exact if_neg (fun same => other (by rw [measured, same]))

/-- Settles O46, by the link state that the measurement finds. -/
theorem measurementActsByLinkState : Obligations.MeasurementActsByLinkState := by
  refine ⟨measurementOf_eq, classOf_eq_some, ?_⟩
  rintro s cycles _ due rfl
  have taken := State.takeMeasurement_due due cycles
  refine ⟨fun c down level usable => hostAfter_congr ?_, fun down without => hostAfter_congr ?_,
    fun c e settling => ⟨fun unusable => hostAfter_congr ?_, fun same => hostAfter_congr ?_,
      fun d usable other => hostAfter_congr ?_⟩,
    fun c r up same reference within => hostAfter_congr ?_, fun c r up same reference beyond => hostAfter_congr ?_,
    fun c up other => hostAfter_congr ?_⟩
  · refine (taken.trans (State.actOnMeasurement_down (s := s.measured cycles) down _)).trans ?_
    exact State.testLinkPair_settles (s := s.measured cycles) rfl usable level
  · refine (taken.trans (State.actOnMeasurement_down (s := s.measured cycles) down _)).trans ?_
    exact State.testLinkPair_stays (s := s.measured cycles) without
  · refine (taken.trans (State.actOnMeasurement_settling (s := s.measured cycles) settling _)).trans ?_
    rw [unusable]
    rfl
  · refine (taken.trans (State.actOnMeasurement_settling (s := s.measured cycles) settling _)).trans ?_
    rw [same]
    exact if_pos rfl
  · refine (taken.trans (State.actOnMeasurement_settling (s := s.measured cycles) settling _)).trans ?_
    rw [usable]
    exact if_neg other
  · refine (taken.trans (State.actOnMeasurement_up (s := s.measured cycles) up same)).trans ?_
    exact State.testRate_within (s := s.measured cycles) reference within
  · refine (taken.trans (State.actOnMeasurement_up (s := s.measured cycles) up same)).trans ?_
    exact State.testRate_changes (s := s.measured cycles) reference beyond
  · exact taken.trans (State.actOnMeasurement_leaves (s := s.measured cycles) up other)

/-! ### Recenters -/

/-- The state in which a recenter is counted and the fill set back to 8 (R143). -/
def State.recenterCounted (s : State) : State :=
  { s with lmon := { s.lmon with recenters := s.lmon.recenters + 1, fill := 8 } }

theorem State.recenters_eq (s : State) : s.recenters = match s.lmon.link with
    | .up _ => s.recenterCounted.recentersInUp
    | .down | .settling _ _ => { s.recenterCounted with rxp := s.rxp.damage } := rfl

theorem State.recenters_notUp (notUp : ∀ c, s.lmon.link ≠ .up c) :
    s.recenters = { s.recenterCounted with rxp := s.rxp.damage } := by
  rw [State.recenters_eq]
  cases link : s.lmon.link with
  | down => rfl
  | settling => rfl
  | up c => exact absurd link (notUp c)

theorem State.recenters_up (up : s.lmon.link = .up c) : s.recenters = s.recenterCounted.recentersInUp := by
  rw [State.recenters_eq, up]

theorem State.quarantineBegins_iff : s.quarantineBegins = true ↔ s.settings.quarantineEnable = 1
    ∧ ∃ t, s.lmon.lastRecenter = some t ∧ (s.time - t).toNat ≤ s.settings.recenterWindowMs * 1000 := by
  unfold State.quarantineBegins
  cases s.lmon.lastRecenter with
  | none => simp
  | some t =>
    simp only [Bool.and_eq_true, beq_iff_eq, decide_eq_true_eq, Option.some.injEq, exists_eq_left']
    rfl

theorem State.recentersInUp_marks (free : s.lmon.quarantineEnd = none) (stays : s.quarantineBegins = false) :
    s.recentersInUp = { s with rxp := s.rxp.damage, lmon := { s.lmon with lastRecenter := some s.time } } := by
  unfold State.recentersInUp
  simp [free, stays]

theorem State.recentersInUp_begins (free : s.lmon.quarantineEnd = none) (begins : s.quarantineBegins = true) :
    s.recentersInUp = ({ s with
      lmon := { s.lmon with
        lastRecenter := some s.time
        quarantineEnd := some (s.time + BitVec.ofNat 48 (s.settings.quarantineMs * 1000)) }
      events := s.events.raise .quarantine s.time } : State).cutAndReport := by
  have noEnd : ¬s.lmon.quarantineEnd.isSome = true := by rw [free]; exact Bool.false_ne_true
  unfold State.recentersInUp
  rw [if_neg noEnd, if_pos begins]
  rfl

theorem State.recentersInUp_extends (quarantined : s.lmon.quarantineEnd = some e) : s.recentersInUp = { s with
    rxp := s.rxp.damage
    lmon := { s.lmon with
      lastRecenter := some s.time
      quarantineEnd := if s.settings.quarantineEnable = 1 then
          some (s.time + BitVec.ofNat 48 (s.settings.quarantineMs * 1000))
        else some e } } := by
  have isEnd : s.lmon.quarantineEnd.isSome = true := by rw [quarantined]; rfl
  unfold State.recentersInUp
  rw [if_pos isEnd, quarantined]
  simp only [beq_iff_eq]
  rfl

/-- Settles O47, by the link state, the quarantine and the last recenter that a recenter finds. -/
theorem recenterAndQuarantine : Obligations.RecenterAndQuarantine := by
  intro s
  refine ⟨fun notUp => hostAfter_congr (State.recenters_notUp notUp), fun c up free single => hostAfter_congr ?_,
    fun c t up free enabled last within => hostAfter_congr ?_, fun c e up quarantined => hostAfter_congr ?_,
    fun reached => congrArg Host.Outcome.next ?_, fun _ _ => rfl, fun _ => rfl, fun _ => rfl, rfl, rfl⟩
  · have stays : s.recenterCounted.quarantineBegins = false := by
      rw [Bool.eq_false_iff, Ne, State.quarantineBegins_iff]
      rintro ⟨enabled, t, last, within⟩
      rcases single with disabled | first | ⟨u, earlier, outside⟩
      · exact disabled enabled
      · cases first.symm.trans last
      · cases earlier.symm.trans last
        exact Nat.not_le.mpr outside within
    rw [State.recenters_up up, State.recentersInUp_marks (by exact free) stays]
    rfl
  · have begins : s.recenterCounted.quarantineBegins = true :=
      State.quarantineBegins_iff.mpr ⟨enabled, t, last, within⟩
    rw [State.recenters_up up, State.recentersInUp_begins (by exact free) begins]
    rfl
  · rw [State.recenters_up up, State.recentersInUp_extends (by exact quarantined)]
    rfl
  · exact if_pos (by rw [State.quarantineDue, reached, beq_self_eq_true])

/-! ### The shed tiers -/

theorem Tier.triggers_iff {t : Tier} {counts : Vector Nat 4} :
    t.triggers counts = true ↔ t.enabled = true ∧ t.threshold ≤ counts[t.source] := by
  rw [Tier.triggers, Bool.and_eq_true, decide_eq_true_eq]

theorem evaluateTiers_none {tiers : Vector Tier 4} {counts : Vector Nat 4}
    (none : ∀ k : Fin 4, tiers[k].triggers counts = false) : evaluateTiers tiers counts = 0 := by
  have found : tiers.toList.find? (fun t => t.triggers counts) = .none := by
    rw [List.find?_eq_none]
    intro t listed
    obtain ⟨k, inside, rfl⟩ := List.getElem_of_mem listed
    have := none ⟨k, by simpa using inside⟩
    simpa using this
  rw [evaluateTiers, found]

/-- The lowest-numbered tier that triggers decides (R155). -/
theorem evaluateTiers_first {tiers : Vector Tier 4} {counts : Vector Nat 4} {k : Fin 4}
    (triggers : tiers[k].triggers counts = true) (lower : ∀ j : Fin 4, j < k → tiers[j].triggers counts = false) :
    evaluateTiers tiers counts = tiers[k].level := by
  have found : tiers.toList.find? (fun t => t.triggers counts) = some tiers[k] := by
    rw [List.find?_eq_some_iff_getElem]
    refine ⟨triggers, k.val, by simp, by simp, fun j below => ?_⟩
    have silent := lower ⟨j, Nat.lt_trans below k.isLt⟩ below
    simpa [Fin.getElem_fin] using silent
  rw [evaluateTiers, found]

theorem State.windowEnds_due (due : s.shed.windowMs * 1000 ≤ (s.time - s.shed.windowStart).toNat) {level : Fin 4}
    (evaluated : evaluateTiers s.settings.tiers s.shed.counts = level) : s.windowEnds = { s with
      shed := ⟨s.time, s.settings.shedWindowMs, Vector.replicate 4 0, level⟩
      events := if level = s.shed.level then s.events else s.events.raise .shedChanged s.time } := by
  have reached : s.windowDue = true := decide_eq_true due
  unfold State.windowEnds
  rw [if_pos reached, evaluated]
  by_cases same : level = s.shed.level
  · simp only [if_pos same]
    rfl
  · simp only [if_neg same]
    rfl

end

/-- Settles O48, by the first tier that triggers. -/
theorem windowEndEvaluatesTiers : Obligations.WindowEndEvaluatesTiers := by
  intro s level due evaluated
  refine hostAfter_congr (State.windowEnds_due due ?_)
  rcases evaluated with ⟨none, rfl⟩ | ⟨k, triggers, lower, rfl⟩
  · refine evaluateTiers_none fun k => ?_
    rw [Bool.eq_false_iff, Ne, Tier.triggers_iff]
    exact none k
  · refine evaluateTiers_first (Tier.triggers_iff.mpr triggers) fun j below => ?_
    rw [Bool.eq_false_iff, Ne, Tier.triggers_iff]
    exact lower j below

end Sys2Proof.Machine
end

/-! O45: the link leaving UP, as the causes told, the frame cut and the queue flushed one after another (R17, R28, R86,
R138, R139). -/
section

namespace Sys2Proof.Machine

section
variable {s : State}

/-! ### The cut reported to PRC -/

theorem State.cutFrame_noFrame (s : State) : s.cutFrame.rxp.inReception = false := by
  rw [s.cutFrame_effect.1]
  cases frame : s.rxp.inReception with
  | true => rfl
  | false => exact frame

theorem State.testWait_parts (noFrame : s.rxp.inReception = false) :
    s.testWait.rxp = s.rxp ∧ s.testWait.pool = s.pool ∧ s.testWait.counters = s.counters := by
  unfold State.testWait
  split
  · rw [State.switchToPart_eq, State.cutFrame_none noFrame]
    simp [State.switched]
  · exact ⟨rfl, rfl, rfl⟩

/-- Reported or not, the cut does the same to the frame, the pool and the counters (R28). -/
theorem State.cutAndReport_parts (s : State) : s.cutAndReport.rxp = s.cutFrame.rxp
    ∧ s.cutAndReport.pool = s.cutFrame.pool ∧ s.cutAndReport.counters = s.cutFrame.counters := by
  unfold State.cutAndReport
  cases frame : s.rxp.inReception with
  | true => exact State.testWait_parts s.cutFrame_noFrame
  | false =>
    rw [State.cutFrame_none frame]
    exact ⟨rfl, rfl, rfl⟩

/-- With the wait of ENTERING not at its end the report changes nothing (R6, R8). -/
theorem State.cutAndReport_waits (waits : s.prc.presence ≠ .entering ∨ s.pins.hostTxActive = true
    ∨ s.rxp.inReception = false) : s.cutAndReport = s.cutFrame := by
  unfold State.cutAndReport
  cases frame : s.rxp.inReception with
  | false => exact (State.cutFrame_none frame).symm
  | true =>
    refine State.testWait_waits ?_
    rcases waits with other | high | none
    · exact .inl (by simpa using other)
    · exact .inr (.inl (by simpa using high))
    · rw [frame] at none
      cases none

theorem State.cutAndReport_switches (entering : s.prc.presence = .entering) (low : s.pins.hostTxActive = false)
    (frame : s.rxp.inReception = true) : s.cutAndReport = s.cutFrame.switched.respond .ok [0] := by
  rw [State.cutAndReport, if_pos frame]
  exact State.testWait_switches (by simpa using entering) (by simpa using low) s.cutFrame_noFrame

/-! ### The flush of the queue -/

/-- What the flush does to the frame in reception, the pool and the counters (R86). -/
theorem State.linkFlush_effect (noFrame : s.rxp.inReception = false) :
    s.linkFlush.rxp = s.rxp
    ∧ (∀ i : Fin 10, s.linkFlush.pool[i].bytes = s.pool[i].bytes ∧ s.linkFlush.pool[i].owner =
        if i ∈ s.txq.queue.map QueuedReply.buf then .free else s.pool[i].owner)
    ∧ s.linkFlush.counters[(17 : Fin 23)] = s.counters[(17 : Fin 23)] + BitVec.ofNat 32 s.txq.queue.length
    ∧ ∀ p : Fin 23, p ≠ 17 → s.linkFlush.counters[p] = s.counters[p] := by
  obtain ⟨pool, counters, flushed, buffers, count, others⟩ :=
    State.flushReplies_eq s.txq.queue { s with txq := Txq.cold }
  have parts : s.linkFlush.rxp = s.rxp ∧ s.linkFlush.pool = pool ∧ s.linkFlush.counters = counters := by
    unfold State.linkFlush
    dsimp only
    rw [flushed]
    split
    · rw [State.leavingEnd]
      have still := State.cutFrame_none (s := { s with txq := Txq.cold, pool := pool, counters := counters }) noFrame
      simp [still]
    · exact ⟨rfl, rfl, rfl⟩
  obtain ⟨rxp, poolEq, countersEq⟩ := parts
  rw [rxp, poolEq, countersEq]
  exact ⟨rfl, buffers, count, others⟩

/-- Outside LEAVING, or with no transmission cut, the flush leaves PRC and the host link alone (R86). -/
theorem State.linkFlush_plain (plain : s.prc.presence ≠ .leaving ∨ s.phyTxen = false) :
    s.linkFlush.prc = s.prc ∧ s.linkFlush.link = s.link := by
  have test : (s.phyTxen && s.prc.presence == .leaving) = false := by
    rcases plain with other | silent
    · simp [other]
    · simp [silent]
  unfold State.linkFlush
  simp [test]

/-- In LEAVING the cut of the transmission ends LEAVING (R17). -/
theorem State.linkFlush_leaving {r : Message} {rest : List Message} (leaving : s.prc.presence = .leaving)
    (sending : s.phyTxen = true) (requests : s.link.requests = r :: rest) :
    s.linkFlush.prc = { s.prc with presence := .passive, escalations := 0, pendingResponse := .none }
    ∧ s.linkFlush.link = { s.link with
      requests := rest, executing := false
      slot := some ⟨responseKind r.kind, r.tag, [0, 0, BitVec.ofNat 8 s.prc.escalations.val]⟩ } := by
  have test : (s.phyTxen && s.prc.presence == .leaving) = true := by simp [sending, leaving]
  unfold State.linkFlush
  dsimp only
  rw [if_pos test]
  refine ⟨by simp [State.leavingEnd], ?_⟩
  rw [State.leavingEnd, State.respond_of_requests (r := r) (rest := rest) (by simpa using requests)]
  simp [Status.code]

/-! ### The link leaving UP -/

/-- LINK_DOWN raised and offered under the presence state the event finds (R139, log 12). -/
def State.linkDownTold (s : State) (dest : Link) : State :=
  ({ s with
    lmon := { s.lmon with link := dest, quarantineEnd := none, lastRecenter := none }
    events := s.events.raise .linkDown s.time } : State).takeCause ⟨.linkDown, none, false, none⟩

theorem State.leaveUp_eq (s : State) (dest : Link) : s.leaveUp dest = (s.linkDownTold dest).cutAndReport.linkFlush := rfl

@[simp] theorem State.linkDownTold_keeps (s : State) (dest : Link) :
    (s.linkDownTold dest).pins = s.pins ∧ (s.linkDownTold dest).rxp = s.rxp ∧ (s.linkDownTold dest).txq = s.txq
      ∧ (s.linkDownTold dest).pool = s.pool ∧ (s.linkDownTold dest).link = s.link
      ∧ (s.linkDownTold dest).counters = s.counters := by
  have pool := (State.takeCause_without_frame ({ s with
    lmon := { s.lmon with link := dest, quarantineEnd := none, lastRecenter := none }
    events := s.events.raise .linkDown s.time } : State) ⟨.linkDown, none, false, none⟩ rfl).1
  refine ⟨?_, ?_, ?_, pool, ?_, ?_⟩ <;> simp [State.linkDownTold]

/-- Outside PROXY the cause offered leaves PRC alone (R9). -/
theorem State.linkDownTold_prc (dest : Link) (notProxy : s.prc.presence ≠ .proxy) :
    (s.linkDownTold dest).prc = s.prc := by
  rw [State.linkDownTold, State.takeCause_prc, if_neg (fun woken => notProxy woken.2)]

/-- Taking a cause never enters ENTERING or LEAVING, and never leaves them (R9). -/
theorem State.linkDownTold_presence (dest : Link) (p : Presence) (notProxy : p ≠ .proxy) (notWaking : p ≠ .waking) :
    (s.linkDownTold dest).prc.presence = p ↔ s.prc.presence = p := by
  by_cases proxy : s.prc.presence = .proxy
  · rw [State.linkDownTold, State.takeCause_prc]
    split
    · simp [proxy, notProxy.symm, notWaking.symm]
    · rfl
  · rw [State.linkDownTold_prc dest proxy]

theorem State.leaveUp_events (s : State) (dest : Link) : (s.leaveUp dest).events = (s.linkDownTold dest).events := by
  simp [State.leaveUp_eq]

/-- What leaving UP does to reception, the pool and the counters: the cut, then the flush (R28, R86). -/
theorem State.leaveUp_effect (s : State) (dest : Link) :
    (s.leaveUp dest).rxp = (if s.rxp.inReception then .ignoring else s.rxp)
    ∧ (s.leaveUp dest).counters[(7 : Fin 23)] = s.counters[(7 : Fin 23)] + (if s.rxp.inReception then 1 else 0)
    ∧ (s.leaveUp dest).counters[(17 : Fin 23)] = s.counters[(17 : Fin 23)] + BitVec.ofNat 32 s.txq.queue.length
    ∧ (∀ p : Fin 23, p ≠ 7 → p ≠ 17 → (s.leaveUp dest).counters[p] = s.counters[p])
    ∧ ∀ i : Fin 10, (s.leaveUp dest).pool[i].bytes = s.pool[i].bytes
      ∧ ((i ∈ s.txq.queue.map QueuedReply.buf ∨ ∃ f, s.rxp = .storing i f) → (s.leaveUp dest).pool[i].owner = .free)
      ∧ (¬(i ∈ s.txq.queue.map QueuedReply.buf ∨ ∃ f, s.rxp = .storing i f) →
        (s.leaveUp dest).pool[i].owner = s.pool[i].owner) := by
  obtain ⟨tRxp, tPool, tCounters⟩ := (s.linkDownTold dest).cutAndReport_parts
  obtain ⟨cRxp, cPool, cCut, cOthers⟩ := (s.linkDownTold dest).cutFrame_effect
  have noFrame : (s.linkDownTold dest).cutAndReport.rxp.inReception = false := by
    rw [tRxp]
    exact State.cutFrame_noFrame _
  obtain ⟨rxp, pool, flushed, others⟩ := State.linkFlush_effect noFrame
  have queue : (s.linkDownTold dest).cutAndReport.txq.queue = s.txq.queue := by simp
  obtain ⟨-, keptRxp, -, keptPool, -, keptCounters⟩ := s.linkDownTold_keeps dest
  simp only [tRxp, tPool, tCounters, queue, keptRxp, keptPool, keptCounters] at *
  rw [State.leaveUp_eq]
  refine ⟨rxp.trans cRxp, ?_, ?_, fun p notCut notFlushed => ?_, fun i => ⟨?_, ?_, ?_⟩⟩
  · rw [others 7 (by decide), cCut]
  · rw [flushed, cOthers 17 (by decide)]
  · rw [others p notFlushed, cOthers p notCut]
  · rw [(pool i).1, (cPool i).1]
  · rintro (queued | stored)
    · rw [(pool i).2, if_pos queued]
    · rw [(pool i).2, (cPool i).2.1 stored, ite_self]
  · intro neither
    rw [not_or] at neither
    rw [(pool i).2, if_neg neither.1, (cPool i).2.2 neither.2]

/-- Where neither ENTERING nor LEAVING ends, PRC and the host link stand as LINK_DOWN's cause left them (R17, R86). -/
theorem State.leaveUp_plain (dest : Link)
    (waits : s.prc.presence ≠ .entering ∨ s.pins.hostTxActive = true ∨ s.rxp.inReception = false)
    (notLeaving : s.prc.presence ≠ .leaving) :
    (s.leaveUp dest).prc = (s.linkDownTold dest).prc ∧ (s.leaveUp dest).link = s.link := by
  have same := s.linkDownTold_presence dest
  obtain ⟨pins, rxp, -⟩ := s.linkDownTold_keeps dest
  have cut : (s.linkDownTold dest).cutAndReport = (s.linkDownTold dest).cutFrame := by
    refine State.cutAndReport_waits ?_
    rw [pins, rxp, Ne, same .entering (by decide) (by decide)]
    exact waits
  have plain := State.linkFlush_plain (s := (s.linkDownTold dest).cutFrame) (.inl (by simpa [same] using notLeaving))
  rw [State.leaveUp_eq, cut, plain.1, plain.2]
  simp

end

/-- Settles O45, by the cause told, the frame cut and the queue flushed. -/
theorem linkLeavesUp : Obligations.LinkLeavesUp := by
  intro s dest
  obtain ⟨pins, otp, time, clock, filters, answers, templates, desc, shed, alarms, settings, factory, -⟩ :=
    s.leaveUp_keeps dest
  obtain ⟨rxp, cut, flushed, counters, pool⟩ := s.leaveUp_effect dest
  obtain ⟨toldPins, toldRxp, -, -, toldLink, -⟩ := s.linkDownTold_keeps dest
  refine ⟨fun c up => hostAfter_congr (State.phyLinkFalls_up up),
    ⟨s.leaveUp_lmon dest, s.leaveUp_txq dest, s.leaveUp_wlog dest, s.leaveUp_events dest⟩,
    ⟨rxp, cut, flushed, counters⟩, pool, fun steady => ?_, fun entering waits => ?_,
    fun r rest entering low frame requests => ?_, fun r rest leaving sending requests => ?_,
    filters, answers, templates, desc, shed, alarms, settings, factory, pins, otp, time, clock⟩
  · have notEntering : s.prc.presence ≠ .entering := by
      rintro h
      rw [h] at steady
      exact absurd steady (by decide)
    have notLeaving : s.prc.presence ≠ .leaving := by
      rintro h
      rw [h] at steady
      exact absurd steady (by decide)
    exact State.leaveUp_plain dest (.inl notEntering) notLeaving
  · obtain ⟨prc, link⟩ := State.leaveUp_plain dest (.inr waits) (by rw [entering]; decide)
    exact ⟨prc.trans (State.linkDownTold_prc dest (by rw [entering]; decide)), link⟩
  · have toldPrc := State.linkDownTold_prc dest (s := s) (by rw [entering]; decide)
    have switches := State.cutAndReport_switches (s := s.linkDownTold dest) (by rw [toldPrc, entering])
      (by rw [toldPins, low]) (by rw [toldRxp, frame])
    rw [State.respond_of_requests (r := r) (rest := rest) (by simpa [State.switched, toldLink] using requests)] at switches
    have plain := State.linkFlush_plain (s := (s.linkDownTold dest).cutAndReport) (.inl (by
      rw [switches]
      exact (by decide : Presence.proxy ≠ .leaving)))
    rw [State.leaveUp_eq, plain.1, plain.2, switches]
    simp [State.switched, toldPrc, Status.code]
  · have toldPrc := State.linkDownTold_prc dest (s := s) (by rw [leaving]; decide)
    have cuts : (s.linkDownTold dest).cutAndReport = (s.linkDownTold dest).cutFrame :=
      State.cutAndReport_waits (.inl (by rw [toldPrc, leaving]; decide))
    have stillSending : (s.linkDownTold dest).cutFrame.phyTxen = true := by
      rw [← sending]
      simp [State.phyTxen]
    have ends := State.linkFlush_leaving (s := (s.linkDownTold dest).cutFrame) (r := r) (rest := rest)
      (by simpa [toldPrc] using leaving) stillSending (by simpa [toldLink] using requests)
    rw [State.leaveUp_eq, cuts, ends.1, ends.2]
    simp [toldPrc]

end Sys2Proof.Machine
end

/-! O49 and O50: the bytes of a frame in each state of RXP (R24, R25), the check state as a function of the bytes
taken, and the terms of a pattern (R42, R43, R44). -/
section

namespace Sys2Proof.Machine

/-! ### The claim of a buffer -/

theorem State.firstFree_eq_some {s : State} {i : Fin 10} (free : s.pool[i].owner = .free)
    (lower : ∀ j : Fin 10, j < i → s.pool[j].owner ≠ .free) : s.firstFree = some i := by
  unfold State.firstFree
  rw [List.find?_eq_some_iff_getElem]
  refine ⟨beq_iff_eq.mpr free, i.val, by simp, by simp, fun j below => ?_⟩
  have taken := lower ⟨j, Nat.lt_trans below i.isLt⟩ below
  simpa [Fin.getElem_fin] using taken

theorem State.firstFree_eq_none {s : State} (taken : ∀ i : Fin 10, s.pool[i].owner ≠ .free) : s.firstFree = none := by
  unfold State.firstFree
  rw [List.find?_eq_none]
  intro i _ free
  exact taken i (beq_iff_eq.mp free)

theorem State.claim_granted {s : State} {i : Fin 10} (owner : Owner) (free : s.pool[i].owner = .free)
    (lower : ∀ j : Fin 10, j < i → s.pool[j].owner ≠ .free) :
    s.claim owner = (some i, { s with pool := s.pool.set i ⟨owner, []⟩ }) := by
  rw [State.claim, State.firstFree_eq_some free lower]
  rfl

theorem State.claim_refused {s : State} (owner : Owner) (taken : ∀ i : Fin 10, s.pool[i].owner ≠ .free) :
    s.claim owner = (none, { s with events := s.events.raise .poolExhausted s.time }) := by
  rw [State.claim, State.firstFree_eq_none taken]
  rfl

/-! ### A frame's bytes -/

section
variable {s : State} {f : RxFrame} {i : Fin 10} {b : Byte}

theorem State.takeFrameByte_storing (storing : s.rxp = .storing i f) : s.takeFrameByte b = { s with
    rxp := .storing i (f.take b)
    pool := if s.pool[i].bytes.length < 256 then
        s.pool.set i { s.pool[i] with bytes := s.pool[i].bytes ++ [b] } else s.pool } := by
  unfold State.takeFrameByte
  rw [storing]
  show (if s.pool[i].bytes.length < 256 then _ else _ : State) = _
  split <;> rfl

theorem State.takeFrameByte_streaming (streaming : s.rxp = .streaming f) :
    s.takeFrameByte b = { s with rxp := .streaming (f.take b) } := by
  rw [State.takeFrameByte, streaming]

theorem State.takeFrameByte_discarding (discarding : s.rxp = .discarding f) :
    s.takeFrameByte b = { s with rxp := .discarding (f.take b) } := by
  rw [State.takeFrameByte, discarding]

theorem State.takeFrameByte_outside (outside : s.rxp = .idle ∨ s.rxp = .ignoring) : s.takeFrameByte b = s := by
  rcases outside with h | h <;> rw [State.takeFrameByte, h]

theorem State.rxError_storing (storing : s.rxp = .storing i f) :
    s.rxError = { s with rxp := .storing i { f with damaged := true } } := by
  rw [State.rxError, storing]

theorem State.rxError_streaming (streaming : s.rxp = .streaming f) :
    s.rxError = { s with rxp := .streaming { f with damaged := true } } := by
  rw [State.rxError, streaming]

theorem State.rxError_discarding (discarding : s.rxp = .discarding f) :
    s.rxError = { s with rxp := .discarding { f with damaged := true } } := by
  rw [State.rxError, discarding]

theorem State.rxError_outside (outside : s.rxp = .idle ∨ s.rxp = .ignoring) : s.rxError = s := by
  rcases outside with h | h <;> rw [State.rxError, h]

theorem RxFrame.take_received (f : RxFrame) (b : Byte) : (f.take b).received = stopAt 65535 f.received := by
  unfold RxFrame.take
  split <;> rfl

theorem RxFrame.take_damaged (f : RxFrame) (b : Byte) : (f.take b).damaged = f.damaged := by
  unfold RxFrame.take
  split <;> rfl

/-! ### The start of a frame -/

/-- The elastic buffer set to its middle at the start of a frame (R143, log 22). -/
def State.filled (s : State) : State := { s with lmon := { s.lmon with fill := 8 } }

theorem State.startFrame_idle (idle : s.rxp = .idle) (b : Byte) : s.startFrame b =
    if s.filled.linkReady = true then
      match s.filled.claim .receiving with
      | (some i, u) => ({ u with rxp := .storing i .atStart } : State).takeFrameByte b
      | (none, u) => ({ u with rxp := .streaming .atStart } : State).takeFrameByte b
    else ({ s.filled with rxp := .discarding .atStart } : State).takeFrameByte b := by
  unfold State.startFrame
  split
  · rfl
  all_goals
    rename_i other
    rw [idle] at other
    cases other

theorem State.startFrame_notReady (idle : s.rxp = .idle) (down : s.linkReady = false) : s.startFrame b = { s with
    lmon := { s.lmon with fill := 8 }, rxp := .discarding (RxFrame.atStart.take b) } := by
  have notReady : ¬s.filled.linkReady = true := by
    rw [show s.filled.linkReady = s.linkReady from rfl, down]
    exact Bool.false_ne_true
  rw [State.startFrame_idle idle, if_neg notReady]
  rfl

theorem State.startFrame_storing (idle : s.rxp = .idle) (ready : s.linkReady = true) (free : s.pool[i].owner = .free)
    (lower : ∀ j : Fin 10, j < i → s.pool[j].owner ≠ .free) : s.startFrame b = { s with
      lmon := { s.lmon with fill := 8 }
      rxp := .storing i (RxFrame.atStart.take b)
      pool := s.pool.set i ⟨.receiving, [b]⟩ } := by
  have ready' : s.filled.linkReady = true := ready
  rw [State.startFrame_idle idle, if_pos ready', State.claim_granted (s := s.filled) .receiving free lower]
  dsimp only
  rw [State.takeFrameByte_storing (i := i) (f := .atStart) rfl]
  simp [State.filled]

theorem State.startFrame_streaming (idle : s.rxp = .idle) (ready : s.linkReady = true)
    (taken : ∀ i : Fin 10, s.pool[i].owner ≠ .free) : s.startFrame b = { s with
      lmon := { s.lmon with fill := 8 }
      rxp := .streaming (RxFrame.atStart.take b)
      events := s.events.raise .poolExhausted s.time } := by
  have ready' : s.filled.linkReady = true := ready
  rw [State.startFrame_idle idle, if_pos ready', State.claim_refused (s := s.filled) .receiving taken]
  rfl

end

/-- Settles O49, by what RXP holds. -/
theorem frameStartAndBytes : Obligations.FrameStartAndBytes := by
  refine ⟨fun s b idle => ⟨fun down => hostAfter_congr (State.startFrame_notReady idle down),
      fun i ready free lower => hostAfter_congr (State.startFrame_storing idle ready free lower),
      fun ready taken => hostAfter_congr (State.startFrame_streaming idle ready taken)⟩,
    fun s b f => ⟨fun i storing => ⟨congrArg Host.Outcome.next (State.takeFrameByte_storing storing),
        congrArg Host.Outcome.next (State.rxError_storing storing)⟩,
      fun streaming => ⟨congrArg Host.Outcome.next (State.takeFrameByte_streaming streaming),
        congrArg Host.Outcome.next (State.rxError_streaming streaming)⟩,
      fun discarding => ⟨congrArg Host.Outcome.next (State.takeFrameByte_discarding discarding),
        congrArg Host.Outcome.next (State.rxError_discarding discarding)⟩,
      fun outside => ⟨congrArg Host.Outcome.next (State.takeFrameByte_outside outside),
        congrArg Host.Outcome.next (State.rxError_outside outside)⟩,
      f.take_received b, f.take_damaged b⟩⟩

/-! ### The check -/

/-- The check state holds the last four bytes, and the register over those before them (R25). -/
theorem RxFrame.foldl_take (bytes : List Byte) :
    (bytes.foldl RxFrame.take RxFrame.atStart).tail = bytes.drop (bytes.length - 4)
    ∧ (bytes.foldl RxFrame.take RxFrame.atStart).crc =
      (bytes.take (bytes.length - 4)).foldl crc32Byte crc32Init := by
  induction bytes using List.reverseRecOn with
  | nil => exact ⟨rfl, rfl⟩
  | append_singleton bytes b ih =>
    obtain ⟨tail, crc⟩ := ih
    rw [List.foldl_append, List.foldl_cons, List.foldl_nil, RxFrame.take, List.length_append, List.length_singleton]
    split
    · rename_i w x y z four
      obtain ⟨front, rfl⟩ : ∃ front, bytes = front ++ [w, x, y, z] :=
        ⟨_, by rw [← four, tail, List.take_append_drop]⟩
      refine ⟨by simp [List.drop_append], ?_⟩
      rw [crc]
      simp [List.take_append, List.foldl_append, List.take_of_length_le]
    · rename_i short
      have few : bytes.length < 4 := by
        by_contra many
        have four : (bytes.drop (bytes.length - 4)).length = 4 := by
          rw [List.length_drop]
          omega
        obtain ⟨w, x, y, z, isFour⟩ := List.length_eq_four.mp four
        exact short w x y z (tail.trans isFour)
      rw [tail, crc]
      simp [show bytes.length - 4 = 0 by omega, show bytes.length + 1 - 4 = 0 by omega]

theorem RxFrame.checkGood_foldl_take (bytes : List Byte) :
    (bytes.foldl RxFrame.take RxFrame.atStart).checkGood = true ↔
      4 ≤ bytes.length ∧ bytes.drop (bytes.length - 4) = checkSequence (bytes.take (bytes.length - 4)) := by
  obtain ⟨tail, crc⟩ := RxFrame.foldl_take bytes
  rw [RxFrame.checkGood, beq_iff_eq, tail, crc, checkSequence]
  refine ⟨fun good => ⟨?_, good⟩, And.right⟩
  have length := congrArg List.length good
  rw [List.length_drop] at length
  have four : (fcsBytes ((bytes.take (bytes.length - 4)).foldl crc32Byte crc32Init)).length = 4 := rfl
  omega

/-! ### Patterns -/

theorem positionAgrees_iff (frame : List Byte) (p : Nat) (value mask : Byte) :
    positionAgrees frame p value mask = true ↔
      (∃ b, frame[p]? = some b ∧ b &&& mask = value &&& mask) ∨ (frame.length ≤ p ∧ mask = 0) := by
  unfold positionAgrees
  cases held : frame[p]? with
  | none => simp [List.getElem?_eq_none_iff.mp held]
  | some b => simp [Nat.not_le.mpr (List.getElem?_eq_some_iff.mp held).1]

theorem Term.matches_iff (t : Term) (frame : List Byte) : t.matches frame = true ↔
    positionAgrees frame t.offset.toNat t.value.b0 t.mask.b0 = true
      ∧ positionAgrees frame (t.offset.toNat + 1) t.value.b1 t.mask.b1 = true
      ∧ positionAgrees frame (t.offset.toNat + 2) t.value.b2 t.mask.b2 = true
      ∧ positionAgrees frame (t.offset.toNat + 3) t.value.b3 t.mask.b3 = true := by
  simp only [Term.matches, Bool.and_eq_true, and_assoc]

/-- Settles O50, by the check state after the bytes and the positions of a term. -/
theorem frameCheckAndPatterns : Obligations.FrameCheckAndPatterns :=
  ⟨RxFrame.checkGood_foldl_take, positionAgrees_iff, Term.matches_iff, fun _ _ => List.all_eq_true⟩

end Sys2Proof.Machine
end

/-! O51: the end of a frame, by its classification, and the walk of a good one (R26, R27, R51). -/
section

namespace Sys2Proof.Machine

/-! ### The classification -/

theorem RxFrame.bad_iff (f : RxFrame) (partialByte : Bool) : ({ f with partialByte := partialByte } : RxFrame).bad = true ↔
    f.checkGood = false ∨ f.damaged = true ∨ partialByte = true := by
  have check : ({ f with partialByte := partialByte } : RxFrame).checkGood = f.checkGood := rfl
  simp only [RxFrame.bad, check, Bool.or_eq_true, Bool.not_eq_true', or_assoc]

section
variable (f : RxFrame) (stored : Bool) (longest : Nat)

theorem RxFrame.classify_short (short : f.received < 64) :
    f.classify stored longest = if f.bad then .rxFragment else .rxUndersize := by
  simp only [RxFrame.classify, short, true_and, if_true]

theorem RxFrame.classify_long (notShort : 64 ≤ f.received) (long : longest < f.received) :
    f.classify stored longest = if f.bad then .rxJabber else .rxOversize := by
  simp only [RxFrame.classify, Nat.not_lt.mpr notShort, false_and, if_false, long, true_and, if_true]

theorem RxFrame.classify_fitting (notShort : 64 ≤ f.received) (notLong : ¬longest < f.received) :
    f.classify stored longest = if f.bad then .rxCheckError else if stored then .rxGood else .rxNoBuffer := by
  simp only [RxFrame.classify, Nat.not_lt.mpr notShort, false_and, if_false, notLong]
  cases stored <;> rfl

end

/-! ### The end of a frame -/

section
variable {s : State} {f : RxFrame} {i : Fin 10}

theorem State.countFrame_eq (s : State) (c : Counter) : s.countFrame c = { s with
    counters := s.counters.set c.position (s.counters[c.position] + 1)
    shed := if c = .rxGood ∨ c = .rxNoBuffer then
        { s.shed with counts := s.shed.counts.set 0 (stopAt 65535 s.shed.counts[(0 : Fin 4)]) }
      else s.shed } := by
  unfold State.countFrame
  dsimp only
  split <;> rfl

theorem State.endFrame_ignoring (ignoring : s.rxp = .ignoring) (partialByte : Bool) :
    s.endFrame partialByte = { s with rxp := .idle } := by
  rw [State.endFrame, ignoring]

theorem State.endFrame_discarding (discarding : s.rxp = .discarding f) (partialByte : Bool) :
    s.endFrame partialByte =
      ({ s with rxp := .idle, counters := s.counters.set 7 (s.counters[(7 : Fin 23)] + 1) } : State).testWait := by
  rw [State.endFrame, discarding]
  rfl

theorem State.endFrame_storing (storing : s.rxp = .storing i f) (partialByte : Bool) :
    s.endFrame partialByte = (s.endStored i { f with partialByte := partialByte }).testWait := by
  rw [State.endFrame, storing]

theorem State.endFrame_streaming (streaming : s.rxp = .streaming f) (partialByte : Bool) :
    s.endFrame partialByte = (({ s with rxp := .idle } : State).countFrame
      (({ f with partialByte := partialByte } : RxFrame).classify false s.settings.maxFrameBytes)).testWait := by
  rw [State.endFrame, streaming]

/-- A frame that is not walked is counted, and reported to SHED where it is good; its buffer is FREE (R26, R27). -/
theorem State.endFrame_counted {stored : Bool} {partialByte : Bool} {c : Counter}
    (frame : s.rxp = if stored then .storing i f else .streaming f)
    (counted : ({ f with partialByte := partialByte } : RxFrame).classify stored s.settings.maxFrameBytes = c)
    (outside : c = .rxGood → s.prc.presence.isProxy = false) : s.endFrame partialByte = ({ s with
      rxp := .idle
      pool := if stored then s.pool.set i { s.pool[i] with owner := .free } else s.pool
      counters := s.counters.set c.position (s.counters[c.position] + 1)
      shed := if c = .rxGood ∨ c = .rxNoBuffer then
          { s.shed with counts := s.shed.counts.set 0 (stopAt 65535 s.shed.counts[(0 : Fin 4)]) }
        else s.shed } : State).testWait := by
  have notWalked : ¬(c = .rxGood ∧ s.prc.presence.isProxy = true) := by
    rintro ⟨good, proxy⟩
    rw [outside good] at proxy
    cases proxy
  cases stored with
  | true =>
    rw [State.endFrame_storing frame, State.endStored]
    dsimp only
    rw [counted, State.countFrame_eq, if_neg notWalked]
    rfl
  | false =>
    rw [State.endFrame_streaming frame, counted, State.countFrame_eq]
    rfl

/-- The walk of a frame leaves a proxy state a proxy state: PRC may be woken, no more (R9, R51). -/
theorem State.walk_isProxy (proxy : s.prc.presence.isProxy = true) (b : Fin 10) (n : Nat) :
    (s.walk b n).prc.presence.isProxy = true := by
  have answers : KeptByAnswers fun u => u.prc.presence.isProxy = true := by
    constructor <;> (intros; assumption)
  refine State.walk_preserves answers (fun _ _ h => h) (fun u r m h => ?_) (fun _ h => h) s n proxy
  rw [State.takeCause_prc]
  split
  · rfl
  · exact h

theorem Presence.ne_entering_of_isProxy {p : Presence} (proxy : p.isProxy = true) : p ≠ .entering := by
  rintro rfl
  cases proxy

/-- A good frame in STORING in a proxy state is counted, reported and walked (R27, R51). -/
theorem State.endFrame_walked {partialByte : Bool} (storing : s.rxp = .storing i f)
    (good : ({ f with partialByte := partialByte } : RxFrame).classify true s.settings.maxFrameBytes = .rxGood)
    (proxy : s.prc.presence.isProxy = true) : s.endFrame partialByte = ({ s with
      rxp := .idle
      counters := s.counters.set 0 (s.counters[(0 : Fin 23)] + 1)
      shed := { s.shed with counts := s.shed.counts.set 0 (stopAt 65535 s.shed.counts[(0 : Fin 4)]) } }
        : State).walk i f.received := by
  rw [State.endFrame_storing storing, State.endStored]
  dsimp only
  rw [good, State.countFrame_eq, if_pos ⟨rfl, proxy⟩]
  refine State.testWait_waits (.inl (Presence.ne_entering_of_isProxy (State.walk_isProxy ?_ i _)))
  exact proxy

end

/-- Settles O51, by the classification of the frame. -/
theorem frameEndClassifiesOrWalks : Obligations.FrameEndClassifiesOrWalks := by
  refine ⟨fun s f partialByte => ⟨fun ignoring => hostAfter_congr (State.endFrame_ignoring ignoring partialByte),
      fun discarding => hostAfter_congr (State.endFrame_discarding discarding partialByte), fun i stored frame => ?_⟩,
    fun s b f proxy storing notShort notLong check whole => hostAfter_congr ?_⟩
  · let ended : RxFrame := { f with partialByte := partialByte }
    have marks := f.bad_iff partialByte
    refine ⟨fun short bad => hostAfter_congr ?_, fun short fine => hostAfter_congr ?_,
      fun notShort long bad => hostAfter_congr ?_, fun notShort long fine => hostAfter_congr ?_,
      fun notShort notLong bad => hostAfter_congr ?_, fun notShort notLong fine outside => hostAfter_congr ?_⟩
    · have counted := (ended.classify_short stored s.settings.maxFrameBytes short).trans (if_pos (marks.mpr bad))
      exact State.endFrame_counted frame counted nofun
    · have counted := (ended.classify_short stored s.settings.maxFrameBytes short).trans (if_neg (mt marks.mp fine))
      exact State.endFrame_counted frame counted nofun
    · have counted := (ended.classify_long stored s.settings.maxFrameBytes notShort long).trans (if_pos (marks.mpr bad))
      exact State.endFrame_counted frame counted nofun
    · have counted := (ended.classify_long stored s.settings.maxFrameBytes notShort long).trans (if_neg (mt marks.mp fine))
      exact State.endFrame_counted frame counted nofun
    · have counted := (ended.classify_fitting stored s.settings.maxFrameBytes notShort notLong).trans (if_pos (marks.mpr bad))
      exact State.endFrame_counted frame counted nofun
    · have counted := (ended.classify_fitting stored _ notShort notLong).trans
        (if_neg (mt marks.mp fine))
      cases stored with
      | true => exact State.endFrame_counted (stored := true) frame counted fun _ => outside rfl
      | false => exact State.endFrame_counted (i := i) (stored := false) frame counted nofun
  · let ended : RxFrame := { f with partialByte := false }
    have fine : ¬ended.bad = true := by
      rw [RxFrame.bad_iff]
      simp [check, whole]
    have good := (ended.classify_fitting true _ notShort (Nat.not_lt.mpr notLong)).trans
      (if_neg fine)
    exact State.endFrame_walked storing good proxy

end Sys2Proof.Machine
end

/-! O52 and O53: the walk of a frame, by the first filter record and the first answer entry that match (R51 to R55, R61
to R67). -/
section

namespace Sys2Proof.Machine

/-! ### The deciding filter -/

section
variable {s : State} {b : Fin 10} {frame : List Byte} {r : FilterRecord} {before after : List FilterRecord}

theorem State.disposeReceived_eq (s : State) (b : Fin 10) : s.disposeReceived b =
    if s.pool[b].owner = .receiving then { s with pool := s.pool.set b { s.pool[b] with owner := .free } } else s := by
  simp only [State.disposeReceived, beq_iff_eq]
  rfl

theorem firstFilter_eq_none {filters : List FilterRecord}
    (none : ∀ r ∈ filters, patternMatches r.pattern frame = false) : firstFilter filters frame = .none := by
  rw [firstFilter, List.findIdx?_eq_none_iff]
  exact none

theorem firstFilter_eq_some (first : patternMatches r.pattern frame = true)
    (earlier : ∀ x ∈ before, patternMatches x.pattern frame = false) :
    firstFilter (before ++ r :: after) frame = some before.length := by
  have none : before.findIdx? (fun r => patternMatches r.pattern frame) = none := firstFilter_eq_none earlier
  rw [firstFilter, List.findIdx?_append, none, List.findIdx?_cons, first]
  simp

/-- The state in which the deciding filter has been hit and reported to SHED (R46, R51, R153). -/
theorem State.hitFilter_report (listed : s.filters = before ++ r :: after) :
    (s.hitFilter before.length).report 1 = { s with
      filters := before ++ { r with hits := stopAt 65535 r.hits } :: after
      shed := { s.shed with counts := s.shed.counts.set 1 (stopAt 65535 s.shed.counts[(1 : Fin 4)]) } } := by
  have hit : s.filters.modify before.length (fun r => { r with hits := stopAt 65535 r.hits })
      = before ++ { r with hits := stopAt 65535 r.hits } :: after := by
    rw [listed, List.modify_eq_take_cons_drop (by simp)]
    simp
  rw [State.hitFilter, hit]
  rfl

theorem State.walk_undecided (none : ∀ r ∈ s.filters, patternMatches r.pattern s.pool[b].bytes = false) (n : Nat) :
    s.walk b n = (s.answerWalk s.pool[b].bytes false).disposeReceived b := by
  rw [State.walk, State.walkFrame, firstFilter_eq_none none]

theorem State.walk_decided (listed : s.filters = before ++ r :: after)
    (first : patternMatches r.pattern s.pool[b].bytes = true)
    (earlier : ∀ x ∈ before, patternMatches x.pattern s.pool[b].bytes = false) (n : Nat) : s.walk b n =
      (((s.hitFilter before.length).report 1).decideByFilter r b n s.pool[b].bytes).disposeReceived b := by
  have position : firstFilter s.filters s.pool[b].bytes = some before.length := by
    rw [listed]
    exact firstFilter_eq_some first earlier
  have record : s.filters[before.length]? = some r := by
    rw [listed]
    simp
  rw [State.walk, State.walkFrame, position]
  dsimp only
  rw [record]

end

/-- Settles O52, by the first filter record that matches. -/
theorem firstMatchingFilterDecides : Obligations.FirstMatchingFilterDecides := by
  intro s b n
  refine ⟨fun none => ?_, fun before after r listed first earlier => ?_⟩
  · rw [State.walk_undecided none, State.disposeReceived_eq]
  · have walked := State.walk_decided listed first earlier n
    rw [State.hitFilter_report listed] at walked
    refine ⟨fun block => ?_, fun wake => ?_, fun wakeAnswer => ?_⟩
    · rw [walked, State.decideByFilter, block]
      exact State.disposeReceived_eq _ _
    · rw [walked, State.decideByFilter, wake]
      exact State.disposeReceived_eq _ _
    · rw [walked, State.decideByFilter, wakeAnswer]
      exact State.disposeReceived_eq _ _

/-! ### The deciding entry -/

theorem firstAnswer_eq_none {answers : Vector (Option AnswerEntry) 32} {frame : List Byte}
    (none : ∀ (i : Fin 32) (e : AnswerEntry), answers[i] = some e → patternMatches e.pattern frame = false) :
    firstAnswer answers frame = .none := by
  rw [firstAnswer, List.find?_eq_none]
  intro i _
  split
  · rename_i e entry
    simp [none i e entry]
  · exact Bool.false_ne_true

theorem firstAnswer_eq_some {answers : Vector (Option AnswerEntry) 32} {frame : List Byte} {i : Fin 32}
    {e : AnswerEntry} (entry : answers[i] = some e) (first : patternMatches e.pattern frame = true)
    (lower : ∀ (j : Fin 32) (x : AnswerEntry), j < i → answers[j] = some x → patternMatches x.pattern frame = false) :
    firstAnswer answers frame = some i := by
  rw [firstAnswer, List.find?_eq_some_iff_getElem]
  refine ⟨by simp only [entry, first], i.val, by simp, by simp, fun j below => ?_⟩
  have inside : j < 32 := Nat.lt_trans below i.isLt
  have earlier := lower ⟨j, inside⟩
  simp only [List.getElem_finRange, Fin.cast_mk, Bool.not_eq_true', Fin.getElem_fin]
  split
  · rename_i x atJ
    exact earlier x below atJ
  · rfl

/-- The pacing test (R63). -/
theorem AnswerEntry.paced_iff (e : AnswerEntry) (now : Time) : e.paced now = true ↔
    ∃ q, e.quietUntil = some q ∧ 1 ≤ (q - now).toNat ∧ (q - now).toNat ≤ e.pacing.toNat * 1000 := by
  unfold AnswerEntry.paced
  cases e.quietUntil with
  | none => simp
  | some q =>
    simp only [Bool.and_eq_true, decide_eq_true_eq, Option.some.injEq, exists_eq_left']
    rfl

/-- The shed test (R64). -/
theorem classDropped_iff (level : Fin 4) (cls : AnswerClass) : classDropped level cls = true ↔ match cls with
    | .essential => level = 3
    | .routine => 2 ≤ level.val
    | .courtesy => 1 ≤ level.val := by
  cases cls <;> simp [classDropped]

/-- The state in which the deciding entry has been hit, counted and reported to SHED (R60, R61, R153). -/
def State.matched (s : State) (i : Fin 32) (e : AnswerEntry) : State :=
  { s with
    answers := s.answers.set i (some e.hit)
    counters := s.counters.set 10 (s.counters[(10 : Fin 23)] + 1)
    shed := { s.shed with counts := s.shed.counts.set 2 (stopAt 65535 s.shed.counts[(2 : Fin 4)]) } }

section
variable {s : State} {i : Fin 32} {e : AnswerEntry} {t : Template} {frame : List Byte}

theorem State.answerWalk_decided (decided : Bool) (entry : s.answers[i] = some e)
    (first : patternMatches e.pattern frame = true)
    (lower : ∀ (j : Fin 32) (x : AnswerEntry), j < i → s.answers[j] = some x → patternMatches x.pattern frame = false) :
    s.answerWalk frame decided = (s.matched i e).admission i e.hit frame := by
  rw [State.answerWalk, firstAnswer_eq_some entry first lower]
  dsimp only
  rw [entry]
  rfl

theorem State.admission_paced (paced : e.paced s.time = true) : s.admission i e frame = s.count .answersPaced :=
  if_pos paced

theorem State.admission_shed (notPaced : ¬e.paced s.time = true) (dropped : classDropped s.shed.level e.cls = true) :
    s.admission i e frame = s.count .answersShed := by
  rw [State.admission, if_neg notPaced, if_pos dropped]

theorem State.admission_queueFull (notPaced : ¬e.paced s.time = true) (kept : ¬classDropped s.shed.level e.cls = true)
    (full : 8 ≤ s.txq.queue.length) :
    s.admission i e frame = (s.count .answersQueueFull).raise .queueOverflow := by
  rw [State.admission, if_neg notPaced, if_neg kept]
  exact if_pos full

theorem State.admission_room (notPaced : ¬e.paced s.time = true) (kept : ¬classDropped s.shed.level e.cls = true)
    (room : s.txq.queue.length < 8) : s.admission i e frame = s.claimAndQueue i e frame := by
  rw [State.admission, if_neg notPaced, if_neg kept]
  exact if_neg (Nat.not_le.mpr room)

theorem State.claimAndQueue_refused (template : s.templates[e.template] = some t)
    (taken : ∀ b : Fin 10, s.pool[b].owner ≠ .free) : s.claimAndQueue i e frame =
      ({ s with events := s.events.raise .poolExhausted s.time } : State).count .answersNoBuffer := by
  rw [State.claimAndQueue, template]
  dsimp only
  rw [State.claim_refused .queued taken]

theorem State.claimAndQueue_granted {b : Fin 10} (template : s.templates[e.template] = some t)
    (free : s.pool[b].owner = .free) (lower : ∀ j : Fin 10, j < b → s.pool[j].owner ≠ .free) :
    s.claimAndQueue i e frame = { s with
      pool := s.pool.set b ⟨.queued, t.build frame s.factory.station.toList⟩
      txq := { s.txq with queue := s.txq.queue ++ [⟨b, t.body.length⟩] }
      answers := s.answers.set i (some { e with
        quietUntil := some (s.time + BitVec.ofNat 48 (e.pacing.toNat * 1000)) }) } := by
  have built : (s.pool.set b ⟨.queued, []⟩).set b ⟨.queued, t.build frame s.factory.station.toList⟩
      = s.pool.set b ⟨.queued, t.build frame s.factory.station.toList⟩ := by simp
  rw [State.claimAndQueue, template]
  dsimp only
  rw [State.claim_granted .queued free lower, ← built]
  rfl

end

/-- Settles O53, by the first entry that matches and the admission tests in their order. -/
theorem firstMatchingEntryAnswers : Obligations.FirstMatchingEntryAnswers := by
  intro s frame
  refine ⟨fun none => ?_, fun i e t decided entry first lower template => ?_⟩
  · have unmatched := firstAnswer_eq_none none
    refine ⟨?_, ?_⟩
    · rw [State.answerWalk, unmatched]
      rfl
    · rw [State.answerWalk, unmatched]
      rfl
  · have walked := State.answerWalk_decided decided entry first lower
    have pacing := e.hit.paced_iff s.time
    have dropping := classDropped_iff s.shed.level e.cls
    have hitTemplate : (s.matched i e).templates[e.hit.template] = some t := template
    refine ⟨fun paced => ?_, fun notPaced dropped => ?_, fun notPaced kept full => ?_,
      fun notPaced kept room taken => ?_, fun b notPaced kept room free earlier => ?_⟩
    · exact walked.trans (State.admission_paced (s := s.matched i e) (pacing.mpr paced))
    · exact walked.trans (State.admission_shed (s := s.matched i e) (mt pacing.mp notPaced) (dropping.mpr dropped))
    · exact walked.trans (State.admission_queueFull (s := s.matched i e) (mt pacing.mp notPaced)
        (mt dropping.mp kept) full)
    · rw [walked, State.admission_room (s := s.matched i e) (mt pacing.mp notPaced) (mt dropping.mp kept) room,
        State.claimAndQueue_refused hitTemplate taken]
      rfl
    · rw [walked, State.admission_room (s := s.matched i e) (mt pacing.mp notPaced) (mt dropping.mp kept) room,
        State.claimAndQueue_granted hitTemplate free earlier]
      simp [State.matched, AnswerEntry.hit]

end Sys2Proof.Machine
end

/-! O54 and O55: the building of a reply, operation by operation (R70), and the transmission of the head of the queue
from its start to the end of its gap (R16, R82 to R85). -/
section

namespace Sys2Proof.Machine

/-! ### The building of a reply -/

theorem getElem?_overwrite {run bytes : List Byte} {d p : Nat} (fits : d + bytes.length ≤ run.length) :
    (overwrite run d bytes)[p]? = if d ≤ p ∧ p < d + bytes.length then bytes[p - d]? else run[p]? := by
  have front : (run.take d).length = d := by
    rw [List.length_take]
    omega
  rw [overwrite, List.append_assoc, List.getElem?_append, front, List.getElem?_append, List.getElem?_take,
    List.getElem?_drop]
  by_cases before : p < d
  · rw [if_pos before, if_pos before, if_neg (by omega)]
  · rw [if_neg before]
    by_cases within : p < d + bytes.length
    · rw [if_pos (by omega), if_pos ⟨Nat.not_lt.mp before, within⟩]
    · rw [if_neg (by omega), if_neg (fun inside => within inside.2)]
      congr 1
      omega

theorem CopyOp.getElem?_taken (o : CopyOp) (frame station : List Byte) {k : Nat} (inside : k < o.width) :
    (o.taken frame station)[k]? = match o.source with
      | .frame => some ((frame[o.srcOffset.toNat + k]?).getD 0)
      | .station => station[k]? := by
  unfold CopyOp.width at inside
  unfold CopyOp.taken
  cases source : o.source with
  | frame =>
    rw [source] at inside
    simp only at inside
    simp [inside]
  | station => rfl

theorem Template.build_append (body frame station : List Byte) (ops : List CopyOp) (o : CopyOp) :
    (⟨body, ops ++ [o]⟩ : Template).build frame station =
      o.apply frame station ((⟨body, ops⟩ : Template).build frame station) := by
  simp only [Template.build, List.foldl_append, List.foldl_cons, List.foldl_nil]

/-- Settles O54, by the bytes of the last operation. -/
theorem replyBuildAppliesOperations : Obligations.ReplyBuildAppliesOperations := by
  intro body frame station ops o p
  refine ⟨rfl, fun six whole fits _ => ?_⟩
  have width := o.taken_length frame six
  rw [Template.build_append, CopyOp.apply, getElem?_overwrite (by rw [width, whole]; exact fits), width]
  split
  · rename_i inside
    exact o.getElem?_taken frame station (by omega)
  · rfl

/-! ### The start of a transmission -/

theorem lineBytes_eq (reply : List Byte) : lineBytes reply =
    [0x55, 0x55, 0x55, 0x55, 0x55, 0x55, 0x55, 0xD5] ++ reply ++ List.replicate (60 - reply.length) 0
      ++ checkSequence (reply ++ List.replicate (60 - reply.length) 0) := by
  simp only [lineBytes, padded, List.append_assoc]
  rfl

theorem checkSequence_length (bytes : List Byte) : (checkSequence bytes).length = 4 := rfl

theorem lineBytes_length (reply : List Byte) : (lineBytes reply).length = 12 + max 60 reply.length := by
  simp only [lineBytes, padded, List.length_append, List.length_replicate, List.length_cons, List.length_nil,
    checkSequence_length]
  omega

section
variable {s : State} {c : RateClass} {r : QueuedReply} {rest : List QueuedReply}

theorem State.startsTransmission_head (idle : s.txq.transmitter = .idle) (up : s.lmon.link = .up c)
    (line : s.lineSelPart = true) (queue : s.txq.queue = r :: rest) : s.startsTransmission = { s with
      txq := { s.txq with
        transmitter := (.sending (lineBytes (s.pool[r.buf].bytes.take r.len))
          (s.clock + (lineBytes (s.pool[r.buf].bytes.take r.len)).length * c.byteNs)) } } := by
  have start : s.startCondition = true :=
    s.startCondition_iff.mpr ⟨idle, ⟨c, up⟩, by rw [queue]; exact List.cons_ne_nil _ _, line⟩
  rw [State.startsTransmission, if_pos start, queue, up]

/-! ### The end of a transmission, and the gap -/

/-- The head has left, and the gap has begun (R84, R85). -/
theorem State.finishHead_head (up : s.lmon.link = .up c) (queue : s.txq.queue = r :: rest) : s.finishHead = { s with
    txq := ⟨rest, .gap (s.clock + 12 * c.byteNs)⟩
    pool := s.pool.set r.buf { s.pool[r.buf] with owner := .free }
    counters := s.counters.set 12 (s.counters[(12 : Fin 23)] + 1)
    shed := { s.shed with counts := s.shed.counts.set 3 (stopAt 65535 s.shed.counts[(3 : Fin 4)]) } } := by
  have gap : s.gapFromNow = .gap (s.clock + 12 * c.byteNs) := by
    rw [State.gapFromNow, up]
  rw [← gap, State.finishHead, queue]
  rfl

/-- LEAVING ends with the frame in reception cut and RECLAIM answered (R16). -/
theorem State.leavingEnd_answers {m : Message} {waiting : List Message} (requests : s.link.requests = m :: waiting) :
    s.leavingEnd = { s.cutFrame with
      prc := { s.prc with presence := .passive, escalations := 0, pendingResponse := .none }
      link := { s.link with
        requests := waiting, executing := false
        slot := some ⟨responseKind m.kind, m.tag, [0, 0, BitVec.ofNat 8 s.prc.escalations.val]⟩ } } := by
  rw [State.leavingEnd, State.respond_of_requests (r := m) (rest := waiting) (by simpa using requests)]
  simp [Status.code]

theorem State.endsTransmission_sending {line : List Byte} {d : Nat} (sending : s.txq.transmitter = .sending line d) :
    s.endsTransmission =
      if s.finishHead.prc.presence = .leaving then s.finishHead.leavingEnd else s.finishHead := by
  rw [State.endsTransmission, sending]
  simp only [beq_iff_eq]

theorem State.endsGap_due {t : Nat} (gap : s.txq.transmitter = .gap t) (reached : t ≤ s.clock) :
    s.endsGap = { s with txq := { s.txq with transmitter := .idle } } := by
  have due : s.gapDue = true := by
    rw [State.gapDue, gap]
    exact decide_eq_true reached
  rw [State.endsGap, if_pos due]

end

/-- Settles O55, by the head of the queue and the gap after it. -/
theorem transmissionStartEndAndGap : Obligations.TransmissionStartEndAndGap := by
  refine ⟨⟨rfl, rfl, rfl⟩, fun s c r rest idle up line queue => ?_, fun s c r rest line d sending up queue => ⟨?_, ?_⟩,
    fun s t gap reached => congrArg Host.Outcome.next (State.endsGap_due gap reached)⟩
  · exact ⟨_, _, lineBytes _, rfl, rfl, lineBytes_eq _, lineBytes_length _,
      congrArg Host.Outcome.next (State.startsTransmission_head idle up line queue)⟩
  · intro staying
    refine hostAfter_congr ?_
    rw [State.endsTransmission_sending sending, State.finishHead_head up queue]
    exact if_neg staying
  · intro m waiting leaving requests
    refine hostAfter_congr ?_
    rw [State.endsTransmission_sending sending, State.finishHead_head up queue]
    exact (if_pos leaving).trans (State.leavingEnd_answers requests)

end Sys2Proof.Machine
end
